-- ==== Sys2Proof/Word.lean ====
section
/-! DEFINITION. The word types of the protocol core: a wire byte, a host register word, a register number
(spec/00_scope.md R9, R10). Every value is unsigned. -/

namespace Sys2Proof

/-- A wire byte, a value 0 to 255 (00_scope R9, R10). -/
abbrev Byte := BitVec 8

/-- A host register word, also the width of an operand and of a response element (00_scope R9). -/
abbrev HostWord := BitVec 16

/-- A host register number, 5 bits (00_scope R9). -/
abbrev RegNum := BitVec 5

end Sys2Proof
end

