-- ==== Sys2Proof/Machine/ChecksumEngine.lean ====
section
/-! DEFINITION. The Checksum Engine (spec/40_checksum_engine.md R110, R111): combinational, no state. -/

namespace Sys2Proof.Machine

/-- `cks8`, the left fold in the source's argument order: header, board address, function code, lock address (R110). -/
def cks8 (ceHeader ceBoard ceFunction ceLock : Byte) : Byte :=
  ((ceHeader ^^^ ceBoard) ^^^ ceFunction) ^^^ ceLock

end Sys2Proof.Machine
end

