-- ==== Sys2Proof/Syntax.lean ====
section
/-! DEFINITION. The instruction set: the seven operations of spec/30_encoding.md R85 and the four command frames of
R92, one constructor per row of spec/opcode_table.json. -/

namespace Sys2Proof

/-- A CommandFrame (30_encoding R89, 10_state R23): five bytes, in the order of their offsets 0 to 4. -/
structure Frame where
  /-- Offset 0, `TXF[0]`. -/
  header : Byte
  /-- Offset 1, `TXF[1]`. -/
  board : Byte
  /-- Offset 2, `TXF[2]`. -/
  lock : Byte
  /-- Offset 3, `TXF[3]`: the function code. -/
  func : Byte
  /-- Offset 4, `TXF[4]`. -/
  checksum : Byte
deriving DecidableEq, Repr, Inhabited

/-- The source's CommandType (00_scope R12, 30_encoding R83). -/
inductive CommandType where
  | unlockAll
  | unlockIndividual
  | queryIndividual
  | queryAll
deriving DecidableEq, Repr, Inhabited

/-- The rows of the opcode table. The operation words' ignored bits (30_encoding R84) are no operand. A command
frame's checksum byte is an operand, because it is never part of a row's fixed bits (R91). -/
inductive Instr where
  /-- CKSUM (40_checksum_engine R114). -/
  | cksum
  /-- BUILD (41_frame_builder R122). -/
  | build
  /-- TPLUA (41_frame_builder R126). -/
  | tplua
  /-- TPLQA (41_frame_builder R127). -/
  | tplqa
  /-- SEND with its fields PORT and CT (43_bus_dispatcher R165). -/
  | send (port : Byte) (ct : BitVec 4)
  /-- DECODE (42_response_decoder R141). -/
  | decode
  /-- ISTAT with its field CT (42_response_decoder R149). -/
  | istat (ct : BitVec 4)
  /-- The command frame UnlockAll (30_encoding R92). -/
  | unlockAll (checksum : Byte)
  /-- The command frame UnlockIndividual (30_encoding R92). -/
  | unlockIndividual (board lock checksum : Byte)
  /-- The command frame QueryIndividual (30_encoding R92). -/
  | queryIndividual (board lock checksum : Byte)
  /-- The command frame QueryAll (30_encoding R92). -/
  | queryAll (checksum : Byte)
deriving DecidableEq, Repr, Inhabited

/-- What the table's rows encode: a 16-bit operation word (30_encoding R80) or a 5-byte command frame (R89). -/
inductive Encoded where
  | opWord (w : HostWord)
  | frame (f : Frame)
deriving DecidableEq, Repr, Inhabited

end Sys2Proof
end

