-- ==== Sys2Proof/Config.lean ====
section
/-! DEFINITION. What an instance of the core fixes and what its environment supplies: the constants of
spec/00_scope.md R7, the configuration record of R8, the input record of spec/10_state.md R46, and the free input. -/

namespace Sys2Proof

/-- `HDR_UNLOCK` (00_scope R7). -/
def hdrUnlock : Byte := 0x8A#8
/-- `HDR_QUERY` (00_scope R7). -/
def hdrQuery : Byte := 0x80#8
/-- `BOARD_CONST` (00_scope R7). -/
def boardConst : Byte := 0x01#8
/-- `LOCK_ALL` (00_scope R7). -/
def lockAll : Byte := 0x00#8
/-- `FC_UNLOCK`: unlock in a command, closed in a reply (00_scope R7). -/
def fcUnlock : Byte := 0x11#8
/-- `FC_OPEN`: open, in a reply (00_scope R7). -/
def fcOpen : Byte := 0x00#8
/-- `LEN_SHORT` (00_scope R7). -/
def lenShort : Nat := 5
/-- `LEN_LONG` (00_scope R7). -/
def lenLong : Nat := 7
/-- `T_DEFAULT` in quarter units (00_scope R7). -/
def tDefault : BitVec 6 := 3#6
/-- `T_EXT` in quarter units (00_scope R7). -/
def tExt : BitVec 6 := 40#6
/-- `DOOR_MIN` (00_scope R7); not enforced by the core. -/
def doorMin : Nat := 1
/-- `DOOR_MAX` (00_scope R7); not enforced by the core. -/
def doorMax : Nat := 24

/-- `LINE_PARITY` (00_scope R8). -/
inductive LineParity where
  | none
  | even
  | odd
deriving DecidableEq, Repr, Inhabited

/-- `DOOR_BIT_ORDER` (00_scope R8): which bit of a door-group byte is which door. -/
inductive DoorBitOrder where
  | lsbIsLowestDoor
  | msbIsLowestDoor
deriving DecidableEq, Repr, Inhabited

/-- The configuration record (00_scope R8). Only `boardFixed` and `queryFc` change the core's behaviour
(92_eei_decisions, summary); the other three are recorded for the platform. -/
structure Config where
  /-- `BOARD_FIXED`. -/
  boardFixed : Bool
  /-- `QUERY_FC`. -/
  queryFc : Byte
  /-- `LINE_PARITY`. -/
  lineParity : LineParity
  /-- `TIME_UNIT` in microseconds; absent where the spec leaves it open. -/
  timeUnit : Option Nat
  /-- `DOOR_BIT_ORDER`; absent where the spec leaves it open. -/
  doorBitOrder : Option DoorBitOrder
deriving DecidableEq, Repr, Inhabited

/-- The defaults of 00_scope R8. `QUERY_FC` = 0x33 and `LINE_PARITY` = none are PRESUMED: the spec marks them as general
knowledge (93_implementation_defined G1, G3); notes/assumptions/3.md and 4.md. Unsafe for statements about the reset state. -/
def Config.default : Config where
  boardFixed := true
  queryFc := 0x33#8
  lineParity := .none
  timeUnit := Option.none
  doorBitOrder := Option.none

/-- The line configuration the core presents when it opens the bus (00_scope R7, R9; 43_bus_dispatcher R161). -/
structure LineConfig where
  baud : Nat
  dataBits : Nat
  stopBits : Nat
  flowControl : Bool
  parity : LineParity
deriving DecidableEq, Repr

/-- 9600 baud, 8 data bits, 1 stop bit, no flow control, parity `LINE_PARITY` (00_scope R9). -/
def Config.line (c : Config) : LineConfig where
  baud := 9600
  dataBits := 8
  stopBits := 1
  flowControl := false
  parity := c.lineParity

/-- The host's access in one step (10_state R46, 20_memory R61). -/
inductive HostAccess where
  | none
  | write (a : RegNum) (d : HostWord)
  | read (a : RegNum)
deriving DecidableEq, Repr, Inhabited

/-- The transport's answer to the open request (10_state R46, 43_bus_dispatcher R161). -/
inductive OpenRsp where
  | none
  | ok
  | fail
deriving DecidableEq, Repr, Inhabited

/-- The transport's answer to the transmit request (10_state R46, 43_bus_dispatcher R161). -/
inductive TxRsp where
  | none
  | done
  | fail
deriving DecidableEq, Repr, Inhabited

/-- The receive side of one step (10_state R46): nothing, one byte, or a connectivity fault. -/
inductive RxIn where
  | none
  | byte (b : Byte)
  | fault
deriving DecidableEq, Repr, Inhabited

/-- The input record sampled in one step (10_state R46). -/
structure Input where
  rst : Bool
  host : HostAccess
  openRsp : OpenRsp
  txRsp : TxRsp
  rx : RxIn
  tick : Bool
deriving DecidableEq, Repr, Inhabited

/-- The input record in which nothing happens. -/
def Input.quiet : Input where
  rst := false
  host := .none
  openRsp := .none
  txRsp := .none
  rx := .none
  tick := false

/-- FREE VALUE. The input record of a step for which no record has been placed in `State.inputs`, numbered by
`State.clock`. The environment may supply any value in any step (43_bus_dispatcher R163): nothing constrains it
(notes/assumptions/1.md, DESIGN CHOICE, safe). -/
opaque Config.freeInput : Nat → Input

end Sys2Proof
end

