-- ==== Sys2Proof/Machine/State.lean ====
section
/-! DEFINITION. The state vector of spec/10_state.md R20 as plain data, its named updates, the reset values of R44, and the
reasons a step can stop. -/

namespace Sys2Proof.Machine

/-- The dispatcher state `DS` (10_state R29): eight named values; 8 to 15 never occur (notes/assumptions/9.md). -/
inductive DispState where
  | idle
  | opening
  | writing
  | reading
  | success
  | timeout
  | tfault
  | closed
deriving DecidableEq, Repr, Inhabited

/-- `RESULT.TAG` (10_state R27); 3 never occurs. -/
inductive ResultTag where
  | none
  | success
  | failure
deriving DecidableEq, Repr, Inhabited

/-- `RESULT.ERR` (10_state R27, 60_exceptions R201): none, or one of the four error kinds; 5 to 7 never occur. -/
inductive ErrorKind where
  | none
  | transportUnavailable
  | timeout
  | malformedInput
  | unrecognizedCommandType
deriving DecidableEq, Repr, Inhabited

/-- The register `ISTAT` (10_state R26): the class of a single-door reply; 5 to 7 never occur. -/
inductive DoorClass where
  | none
  | doorOpen
  | locked
  | unlockFailed
  | unknown
deriving DecidableEq, Repr, Inhabited

/-- The register `RESULT` (10_state R27). -/
structure Result where
  /-- `TAG`. -/
  tag : ResultTag
  /-- `ERR`. -/
  err : ErrorKind
  /-- `LASTOP`. -/
  lastOp : BitVec 4
deriving DecidableEq, Repr, Inhabited

/-- The state of the core (10_state R20), then the model's own fields. -/
structure State where
  /-- `x[0]`, HDR (R21). -/
  hdr : HostWord
  /-- `x[1]`, BRD (R21). -/
  brd : HostWord
  /-- `x[2]`, LCK (R21). -/
  lck : HostWord
  /-- `x[3]`, FNC (R21). -/
  fnc : HostWord
  /-- `CKS` (R22). -/
  cks : Byte
  /-- `TXF[0..4]` (R23). -/
  txf : Frame
  /-- `TXV` (R23). -/
  txv : Bool
  /-- `RSP[0..6]` (R24). -/
  rsp : Vector HostWord 7
  /-- `RSPLEN` (R24). -/
  rspLen : BitVec 4
  /-- `DG[0..5]` (R25). -/
  dg : Vector Byte 6
  /-- `DGN` (R25). -/
  dgn : BitVec 3
  /-- `ISTAT` (R26). -/
  istat : DoorClass
  /-- `RESULT` (R27). -/
  result : Result
  /-- `DS` (R29). -/
  ds : DispState
  /-- `CONN` (R32). -/
  conn : Bool
  /-- `RXCNT` (R33). -/
  rxcnt : BitVec 3
  /-- `TMR` (R34). -/
  tmr : BitVec 6
  /-- `DCT` (R35). -/
  dct : BitVec 4
  /-- `DPORT` (R35). -/
  dport : Byte
  /-- `HZ` (R36). -/
  hz : Bool
  /-- `ILL` (R37). -/
  ill : Bool
  /-- The model's own: the configuration record (R41), which no step changes (notes/assumptions/3.md). -/
  cfg : Config
  /-- The model's own: the input records of the coming steps, the next step's first (notes/assumptions/1.md). -/
  inputs : List Input
  /-- The model's own: the number of the free input used where `inputs` is empty (notes/assumptions/1.md). -/
  clock : Nat
deriving DecidableEq, Repr

/-- Why the machine stops. The spec gives the machine no trap (60_exceptions R207): both reasons stand for an index or a counter
outside its range, in a state that breaks 10_state R42 item 7, which no run from reset reaches (notes/assumptions/10.md, DESIGN
CHOICE). -/
inductive Fault where
  /-- Raised in READING by a byte with `RXCNT` = 7: `RSP[7]` does not exist (20_memory R69). Safe: the model stops. -/
  | rspIndexOutOfRange
  /-- Raised in READING by a tick with `TMR` = 0: the counter cannot wrap (40_checksum_engine R112). Safe: the model stops. -/
  | timerUnderflow
deriving DecidableEq, Repr

/-- Why an instruction is refused. -/
inductive Refusal where
  /-- Raised by an arm of exec that has no meaning yet; no arm is left so. Safe. -/
  | notModelled (mnemonic : String)
  /-- Raised by the meaning of a command frame in a state in which the core does not present that frame to the transport
  (43_bus_dispatcher R161, R162): the core then does nothing with such a frame. No step raises it
  (notes/assumptions/6.md, DESIGN CHOICE). Safe: the model stops. -/
  | frameNotPresented
deriving DecidableEq, Repr

/-- An empty frame buffer: five zero bytes (R44, 41_frame_builder R129). -/
def zeroFrame : Frame := { header := 0#8, board := 0#8, lock := 0#8, func := 0#8, checksum := 0#8 }

/-- The machine right after reset (10_state R44; every value there is the spec's). The model's own fields: the default
configuration, no input placed, clock 0 (notes/assumptions/1.md, 3.md). -/
def State.reset : State where
  hdr := 0#16
  brd := 0#16
  lck := 0#16
  fnc := 0#16
  cks := 0#8
  txf := zeroFrame
  txv := false
  rsp := Vector.replicate 7 0#16
  rspLen := 0#4
  dg := Vector.replicate 6 0#8
  dgn := 0#3
  istat := .none
  result := { tag := .none, err := .none, lastOp := 0#4 }
  ds := .idle
  conn := false
  rxcnt := 0#3
  tmr := 0#6
  dct := 0#4
  dport := 0#8
  hz := false
  ill := false
  cfg := Config.default
  inputs := []
  clock := 0

/-- The input record the step at `s` samples (10_state R46): the first one placed, or a free one. -/
def State.input (s : State) : Input :=
  match s.inputs with
  | [] => Config.freeInput s.clock
  | i :: _ => i

/-- The step is over: its input record is used up. -/
def State.advance (s : State) : State := { s with inputs := s.inputs.tail, clock := s.clock + 1 }

def State.withHdr (s : State) (d : HostWord) : State := { s with hdr := d }
def State.withBrd (s : State) (d : HostWord) : State := { s with brd := d }
def State.withLck (s : State) (d : HostWord) : State := { s with lck := d }
def State.withFnc (s : State) (d : HostWord) : State := { s with fnc := d }
def State.withCks (s : State) (c : Byte) : State := { s with cks := c }
def State.withFrame (s : State) (f : Frame) (v : Bool) : State := { s with txf := f, txv := v }
def State.withRsp (s : State) (r : Vector HostWord 7) : State := { s with rsp := r }
def State.withRspLen (s : State) (n : BitVec 4) : State := { s with rspLen := n }
def State.withGroups (s : State) (g : Vector Byte 6) (n : BitVec 3) : State := { s with dg := g, dgn := n }
def State.withIstat (s : State) (c : DoorClass) : State := { s with istat := c }
def State.withResult (s : State) (r : Result) : State := { s with result := r }
def State.withDs (s : State) (d : DispState) : State := { s with ds := d }
def State.withConn (s : State) (b : Bool) : State := { s with conn := b }
def State.withRxcnt (s : State) (n : BitVec 3) : State := { s with rxcnt := n }
def State.withTmr (s : State) (n : BitVec 6) : State := { s with tmr := n }
def State.withLatches (s : State) (ct : BitVec 4) (port : Byte) : State := { s with dct := ct, dport := port }
def State.withHz (s : State) : State := { s with hz := true }
def State.withIll (s : State) : State := { s with ill := true }

end Sys2Proof.Machine
end

