-- ==== Sys2Proof/Machine/Flags.lean ====
section
/-! DEFINITION. The numeric codes of the enumerations and the derived flag and read views: `BUSY`, `STATUS`, `RESULT`
(spec/10_state.md R26 to R29, R31). -/

namespace Sys2Proof.Machine

/-- The 4-bit code of `DS` (10_state R29). -/
def DispState.code : DispState → BitVec 4
  | .idle => 0
  | .opening => 1
  | .writing => 2
  | .reading => 3
  | .success => 4
  | .timeout => 5
  | .tfault => 6
  | .closed => 7

/-- The 2-bit code of `TAG` (10_state R27). -/
def ResultTag.code : ResultTag → BitVec 2
  | .none => 0
  | .success => 1
  | .failure => 2

/-- The 3-bit code of `ERR` (10_state R27, 60_exceptions R201). -/
def ErrorKind.code : ErrorKind → BitVec 3
  | .none => 0
  | .transportUnavailable => 1
  | .timeout => 2
  | .malformedInput => 3
  | .unrecognizedCommandType => 4

/-- The 3-bit code of `ISTAT` (10_state R26). -/
def DoorClass.code : DoorClass → BitVec 3
  | .none => 0
  | .doorOpen => 1
  | .locked => 2
  | .unlockFailed => 3
  | .unknown => 4

/-- `BUSY` of a dispatcher state: neither IDLE nor CLOSED (10_state R31). -/
def DispState.busy : DispState → Bool
  | .idle => false
  | .closed => false
  | _ => true

/-- `BUSY` (10_state R31). -/
def State.busy (s : State) : Bool := s.ds.busy

/-- The word read from `STATUS` (10_state R28). -/
def statusWord (s : State) : HostWord :=
  0#2 ++ BitVec.ofBool s.ill ++ BitVec.ofBool s.hz ++ 0#1 ++ s.rxcnt ++ 0#1 ++ BitVec.ofBool s.txv ++
    BitVec.ofBool s.conn ++ BitVec.ofBool s.busy ++ s.ds.code

/-- The word read from `RESULT` (10_state R27). -/
def Result.word (r : Result) : HostWord :=
  0#4 ++ r.lastOp ++ 0#3 ++ r.err.code ++ r.tag.code

end Sys2Proof.Machine
end

