-- ==== Sys2Proof/Machine/Operands.lean ====
section
/-! DEFINITION. How operations read their operands: the byte range check and the low byte (spec/00_scope.md R10), the four
operand registers together (40_checksum_engine R114, 41_frame_builder R121), the elements of the response (42_response_decoder
R142), and the two functions of the command type (43_bus_dispatcher R172). -/

namespace Sys2Proof.Machine

/-- `isbyte(v)`: `v <= 0xFF` (00_scope R10). -/
def isByte (v : HostWord) : Bool := decide (v.toNat ≤ 0xFF)

/-- `v[7:0]` (00_scope R10). -/
def lowByte (v : HostWord) : Byte := v.extractLsb' 0 8

/-- `zext_16(b)` (00_scope R10). -/
def zext16 (b : Byte) : HostWord := b.setWidth 16

/-- The range check of CKSUM and BUILD: all four operand registers hold bytes (40_checksum_engine R114,
41_frame_builder R121). -/
def operandsAreBytes (s : State) : Bool :=
  isByte s.hdr && isByte s.brd && isByte s.lck && isByte s.fnc

/-- Every element of `RSP` at an index below `n` is a byte (42_response_decoder R141, R149). -/
def elementsAreBytes (s : State) (n : Nat) : Bool :=
  decide (∀ i : Fin 7, i.val < n → isByte s.rsp[i] = true)

/-- The expected reply length of a command type (43_bus_dispatcher R172; codes 4 to 15, which `DCT` never holds, take the else branch:
notes/assumptions/13.md, DESIGN CHOICE, safe). -/
def explen (ct : BitVec 4) : Nat := if ct.toNat = 3 then lenLong else lenShort

/-- The read window of a command type, in quarter units (43_bus_dispatcher R172; notes/assumptions/13.md). -/
def tq (ct : BitVec 4) : BitVec 6 := if ct.toNat = 0 then tExt else tDefault

end Sys2Proof.Machine
end

