-- ==== Sys2Proof/Machine/Ops.lean ====
section
/-! DEFINITION. The operations every meaning shares: reporting a result (spec/00_scope.md R10, 60_exceptions R200: the core's only
form of exception, with no return from one, R207, R208), refusing a host write while busy (70_reset_and_hazards R240), and the host
register space (10_state R39, 20_memory R62 to R66). -/

namespace Sys2Proof.Machine

/-- The outcome type of the model. -/
abbrev Out := Host.Outcome State Fault Refusal

/-- Continue with the next state, or stop where the first part stopped. -/
def andThen (o : Out) (f : State → Out) : Out :=
  match o with
  | .next s => f s
  | .fault r => .fault r
  | .refused r => .refused r

/-- `succeed(op)` (00_scope R10). -/
def succeed (op : BitVec 4) (s : State) : State :=
  s.withResult { tag := .success, err := .none, lastOp := op }

/-- `raise K(op)` (00_scope R10, 60_exceptions R200): three assignments and nothing more. -/
def raiseError (k : ErrorKind) (op : BitVec 4) (s : State) : State :=
  s.withResult { tag := .failure, err := k, lastOp := op }

/-- A host write: refused with `HZ` while BUSY, else its effect (20_memory R62, 70_reset_and_hazards R240). -/
def whenResting (s : State) (effect : State → State) : State :=
  if s.busy then s.withHz else effect s

/-- The reset state with the model's own fields of `s`: what `rst` leaves (70_reset_and_hazards R230;
notes/assumptions/12.md, DESIGN CHOICE, safe). -/
def State.afterRst (s : State) : State :=
  { State.reset with cfg := s.cfg, inputs := s.inputs, clock := s.clock }

/-- The zeroed response buffer. -/
def zeroRsp : Vector HostWord 7 := Vector.replicate 7 0#16

/-- The zeroed group list. -/
def zeroGroups : Vector Byte 6 := Vector.replicate 6 0#8

/-- The host register number of `OP` (10_state R38). -/
def opRegister : RegNum := 0x04#5

/-- Host read of a register number (10_state R39, 20_memory R63): the register zero-extended; 0 for `OP` and for the unassigned
numbers. -/
def hostRead (s : State) (a : RegNum) : HostWord :=
  match a.toNat with
  | 0x00 => s.hdr
  | 0x01 => s.brd
  | 0x02 => s.lck
  | 0x03 => s.fnc
  | 0x05 => statusWord s
  | 0x06 => s.result.word
  | 0x07 => zext16 s.cks
  | 0x08 => zext16 s.txf.header
  | 0x09 => zext16 s.txf.board
  | 0x0A => zext16 s.txf.lock
  | 0x0B => zext16 s.txf.func
  | 0x0C => zext16 s.txf.checksum
  | 0x10 => s.rsp[0]
  | 0x11 => s.rsp[1]
  | 0x12 => s.rsp[2]
  | 0x13 => s.rsp[3]
  | 0x14 => s.rsp[4]
  | 0x15 => s.rsp[5]
  | 0x16 => s.rsp[6]
  | 0x17 => s.rspLen.setWidth 16
  | 0x18 => zext16 s.dg[0]
  | 0x19 => zext16 s.dg[1]
  | 0x1A => zext16 s.dg[2]
  | 0x1B => zext16 s.dg[3]
  | 0x1C => zext16 s.dg[4]
  | 0x1D => zext16 s.dg[5]
  | 0x1E => s.dgn.setWidth 16
  | 0x1F => s.istat.code.setWidth 16
  | _ => 0#16

/-- The effect of a host write to a register number other than `OP`, at rest: an RW register stores (20_memory R64), a read-only or
unassigned number sets `ILL` (R66). -/
def storeRegister (a : RegNum) (d : HostWord) (s : State) : State :=
  match a.toNat with
  | 0x00 => s.withHdr d
  | 0x01 => s.withBrd d
  | 0x02 => s.withLck d
  | 0x03 => s.withFnc d
  | 0x10 => s.withRsp (s.rsp.set 0 d)
  | 0x11 => s.withRsp (s.rsp.set 1 d)
  | 0x12 => s.withRsp (s.rsp.set 2 d)
  | 0x13 => s.withRsp (s.rsp.set 3 d)
  | 0x14 => s.withRsp (s.rsp.set 4 d)
  | 0x15 => s.withRsp (s.rsp.set 5 d)
  | 0x16 => s.withRsp (s.rsp.set 6 d)
  | 0x17 => s.withRspLen (d.extractLsb' 0 4)
  | _ => s.withIll

/-- A host write to a register number other than `OP` (20_memory R62, R64, R66). -/
def writeRegister (a : RegNum) (d : HostWord) (s : State) : State :=
  whenResting s (storeRegister a d)

/-- A host write of `OP` with a reserved operation code (30_encoding R87). -/
def reservedOp (s : State) : State := whenResting s State.withIll

end Sys2Proof.Machine
end

