-- ==== Sys2Proof/Machine/Cksum.lean ====
section
/-! DEFINITION. The operation CKSUM (spec/40_checksum_engine.md R114). -/

namespace Sys2Proof.Machine

/-- CKSUM at rest (40_checksum_engine R114): the BRD operand as it is; a failure leaves `CKS`. -/
def cksumEffect (s : State) : State :=
  if operandsAreBytes s then
    succeed 1#4 (s.withCks (cks8 (lowByte s.hdr) (lowByte s.brd) (lowByte s.fnc) (lowByte s.lck)))
  else raiseError .malformedInput 1#4 s

/-- The meaning of CKSUM. -/
def execCksum (s : State) : Out := .next (whenResting s cksumEffect)

end Sys2Proof.Machine
end

