-- ==== Sys2Proof/Decode.lean ====
section
/-! DEFINITION. Decoding operation words (spec/30_encoding.md R80 to R88) and command frames (R89 to R93, R104), and the
encoder of both. Total: what is no row of the opcode table is rejected by name. -/

namespace Sys2Proof

/-- Why an encoding stands for no instruction. -/
inductive DecodeError where
  /-- An operation word whose OPC is 0 or 8 to 15 (30_encoding R87). -/
  | reservedOpcode (opc : BitVec 4)
  /-- Five bytes that match no CMD5 row of the opcode table (30_encoding R104). -/
  | noCommandPattern
  /-- A number of bits that no format of the opcode table has (30_encoding R104). -/
  | wrongLength (nbits : Nat)
deriving DecidableEq, Repr

/-- Field OPC of an operation word, bits [3:0] (30_encoding R80). -/
def opcField (d : HostWord) : BitVec 4 := d.extractLsb' 0 4

/-- Field CT of an operation word, bits [7:4] (30_encoding R80). -/
def ctField (d : HostWord) : BitVec 4 := d.extractLsb' 4 4

/-- Field PORT of an operation word, bits [15:8] (30_encoding R80). -/
def portField (d : HostWord) : Byte := d.extractLsb' 8 8

/-- An operation word from its three fields (30_encoding R80). -/
def opWordOf (port : Byte) (ct opc : BitVec 4) : HostWord := port ++ ct ++ opc

/-- The decoder of operation words (30_encoding R84). -/
def decodeOp (d : HostWord) : Except DecodeError Instr :=
  match (opcField d).toNat with
  | 1 => .ok .cksum
  | 2 => .ok .build
  | 3 => .ok .tplua
  | 4 => .ok .tplqa
  | 5 => .ok (.send (portField d) (ctField d))
  | 6 => .ok .decode
  | 7 => .ok (.istat (ctField d))
  | _ => .error (.reservedOpcode (opcField d))

/-- The frame that 40 bits stand for, offset 0 in bits [39:32] and the checksum in bits [7:0] (30_encoding R91;
notes/assumptions/15.md, DEDUCED). -/
def Frame.ofBits (w : BitVec 40) : Frame where
  header := w.extractLsb' 32 8
  board := w.extractLsb' 24 8
  lock := w.extractLsb' 16 8
  func := w.extractLsb' 8 8
  checksum := w.extractLsb' 0 8

/-- The 40 bits of a frame, `TXF[0] ++ TXF[1] ++ TXF[2] ++ TXF[3] ++ TXF[4]` (30_encoding R91, 43_bus_dispatcher R162). -/
def Frame.toBits (f : Frame) : BitVec 40 := f.header ++ f.board ++ f.lock ++ f.func ++ f.checksum

/-- The four command frames by the patterns of the opcode table, the "all" row of a header taking precedence over its
individual row (30_encoding R92, R104). The checksum byte is in no pattern (R91). A frame with lock 0x00 and a board byte
other than 0x01 matches the individual row alone (DEDUCED, notes/assumptions/8.md). -/
def decodeFrame (cfg : Config) (f : Frame) : Except DecodeError Instr :=
  if f.header = hdrUnlock ∧ f.func = fcUnlock then
    if f.board = boardConst ∧ f.lock = lockAll then .ok (.unlockAll f.checksum)
    else .ok (.unlockIndividual f.board f.lock f.checksum)
  else if f.header = hdrQuery ∧ f.func = cfg.queryFc then
    if f.board = boardConst ∧ f.lock = lockAll then .ok (.queryAll f.checksum)
    else .ok (.queryIndividual f.board f.lock f.checksum)
  else .error .noCommandPattern

/-- The decoder of everything the opcode table encodes. -/
def decode (cfg : Config) : Encoded → Except DecodeError Instr
  | .opWord w => decodeOp w
  | .frame f => decodeFrame cfg f

/-- The frame of UnlockAll (30_encoding R92). -/
def unlockAllFrame (checksum : Byte) : Frame :=
  { header := hdrUnlock, board := boardConst, lock := lockAll, func := fcUnlock, checksum := checksum }

/-- The frame of UnlockIndividual (30_encoding R92). -/
def unlockIndividualFrame (board lock checksum : Byte) : Frame :=
  { header := hdrUnlock, board := board, lock := lock, func := fcUnlock, checksum := checksum }

/-- The frame of QueryIndividual (30_encoding R92). -/
def queryIndividualFrame (cfg : Config) (board lock checksum : Byte) : Frame :=
  { header := hdrQuery, board := board, lock := lock, func := cfg.queryFc, checksum := checksum }

/-- The frame of QueryAll (30_encoding R92). -/
def queryAllFrame (cfg : Config) (checksum : Byte) : Frame :=
  { header := hdrQuery, board := boardConst, lock := lockAll, func := cfg.queryFc, checksum := checksum }

/-- The encoder (30_encoding R80, R92). Ignored fields of an operation word are written as zero (R101). -/
def encode (cfg : Config) : Instr → Encoded
  | .cksum => .opWord (opWordOf 0 0 1)
  | .build => .opWord (opWordOf 0 0 2)
  | .tplua => .opWord (opWordOf 0 0 3)
  | .tplqa => .opWord (opWordOf 0 0 4)
  | .send port ct => .opWord (opWordOf port ct 5)
  | .decode => .opWord (opWordOf 0 0 6)
  | .istat ct => .opWord (opWordOf 0 ct 7)
  | .unlockAll c => .frame (unlockAllFrame c)
  | .unlockIndividual b l c => .frame (unlockIndividualFrame b l c)
  | .queryIndividual b l c => .frame (queryIndividualFrame cfg b l c)
  | .queryAll c => .frame (queryAllFrame cfg c)

/-- The encoding as one number, as the opcode table numbers its bits (30_encoding R91). -/
def Encoded.bits : Encoded → Nat
  | .opWord w => w.toNat
  | .frame f => f.toBits.toNat

/-- What a number of `nbits` bits is in the opcode table: 16 bits an operation word, 40 bits a command frame. -/
def Encoded.ofBits (nbits w : Nat) : Except DecodeError Encoded :=
  match nbits with
  | 16 => .ok (.opWord (BitVec.ofNat 16 w))
  | 40 => .ok (.frame (Frame.ofBits (BitVec.ofNat 40 w)))
  | n => .error (.wrongLength n)

/-- The instruction the decoder reads from the bits `w` as the opcode table numbers them (30_encoding R91), with the table's
printed `QUERY_FC` (R104). -/
def decodeTableWord (nbits w : Nat) : Option Instr :=
  match Encoded.ofBits nbits w with
  | .ok e =>
    match decode Config.default e with
    | .ok i => some i
    | .error _ => none
  | .error _ => none

/-- The command type a code stands for; 4 to 15 stand for none (30_encoding R83, R86). -/
def CommandType.ofCode (ct : BitVec 4) : Option CommandType :=
  match ct.toNat with
  | 0 => some .unlockAll
  | 1 => some .unlockIndividual
  | 2 => some .queryIndividual
  | 3 => some .queryAll
  | _ => none

/-- The code of a command type (30_encoding R83). -/
def CommandType.code : CommandType → BitVec 4
  | .unlockAll => 0
  | .unlockIndividual => 1
  | .queryIndividual => 2
  | .queryAll => 3

/-- A reader's classification of a frame by header and lock address alone (30_encoding R93). No rule of the core uses it. -/
def Frame.classify (f : Frame) : Option CommandType :=
  if f.header = hdrUnlock then
    if f.lock = lockAll then some .unlockAll else some .unlockIndividual
  else if f.header = hdrQuery then
    if f.lock = lockAll then some .queryAll else some .queryIndividual
  else none

/-- The command type of a command frame's row (30_encoding R92, column CT). -/
def Instr.commandType : Instr → Option CommandType
  | .unlockAll _ => some .unlockAll
  | .unlockIndividual _ _ _ => some .unlockIndividual
  | .queryIndividual _ _ _ => some .queryIndividual
  | .queryAll _ => some .queryAll
  | .cksum => none
  | .build => none
  | .tplua => none
  | .tplqa => none
  | .send _ _ => none
  | .decode => none
  | .istat _ => none

end Sys2Proof
end

