-- ==== Sys2Proof/Machine/Dispatcher.lean ====
section
/-! DEFINITION. The operation SEND and the transitions of the dispatcher state machine (spec/43_bus_dispatcher.md R165 to R186). Each
transition reads the transport inputs of the step's input record. -/

namespace Sys2Proof.Machine

/-- What every SEND does first (43_bus_dispatcher R165). -/
def sendCommon (s : State) : State :=
  { s with
    rsp := zeroRsp
    rspLen := 0#4
    dg := zeroGroups
    dgn := 0#3
    istat := .none
    rxcnt := 0#3
    result := { s.result with lastOp := 5#4 } }

/-- A SEND rejected before any transport activity (43_bus_dispatcher R166, R167). -/
def rejectSend (k : ErrorKind) (s : State) : State := (raiseError k 5#4 s).withDs .closed

/-- A SEND accepted (43_bus_dispatcher R168). -/
def acceptSend (port : Byte) (ct : BitVec 4) (s : State) : State :=
  { s with
    dct := ct
    dport := port
    result := { tag := .none, err := .none, lastOp := 5#4 }
    ds := .opening }

/-- SEND at rest: R165, then the first of R166, R167, R168 that applies (43_bus_dispatcher). -/
def sendEffect (port : Byte) (ct : BitVec 4) (s : State) : State :=
  if 3 < ct.toNat then rejectSend .unrecognizedCommandType (sendCommon s)
  else if s.txv = false then rejectSend .malformedInput (sendCommon s)
  else acceptSend port ct (sendCommon s)

/-- The meaning of SEND. -/
def execSend (port : Byte) (ct : BitVec 4) (s : State) : Out := .next (whenResting s (sendEffect port ct))

/-- Entering TIMEOUT or TFAULT with the error kind of that state (43_bus_dispatcher R180). -/
def enterFailure (d : DispState) (k : ErrorKind) (s : State) : State :=
  { raiseError k 5#4 s with ds := d, rsp := zeroRsp, rspLen := 0#4 }

/-- Entering TFAULT (43_bus_dispatcher R180). -/
def enterTfault (s : State) : State := enterFailure .tfault .transportUnavailable s

/-- Entering TIMEOUT (43_bus_dispatcher R180). -/
def enterTimeout (s : State) : State := enterFailure .timeout .timeout s

/-- Entering SUCCESS (43_bus_dispatcher R179). -/
def enterSuccess (s : State) : State :=
  { succeed 5#4 s with ds := .success, rspLen := BitVec.ofNat 4 (explen s.dct) }

/-- A step in OPENING (43_bus_dispatcher R169, R170). -/
def openingStep (s : State) : State :=
  match s.input.openRsp with
  | .none => s
  | .ok => (s.withConn true).withDs .writing
  | .fail => enterTfault s

/-- A step in WRITING (43_bus_dispatcher R171, R177). -/
def writingStep (s : State) : State :=
  match s.input.txRsp with
  | .none => s
  | .done => ((s.withTmr (tq s.dct)).withRxcnt 0#3).withDs .reading
  | .fail => enterTfault s

/-- The state with byte `b` stored at `RSP[RXCNT]` and counted, `k` = `RXCNT` in range (43_bus_dispatcher R173). -/
def storeByteAt (b : Byte) (s : State) (k : Nat) (h : k < 7) : State :=
  (s.withRsp (s.rsp.set k (zext16 b) h)).withRxcnt (s.rxcnt + 1#3)

/-- A byte in READING (43_bus_dispatcher R173). `RSP[7]` does not exist (20_memory R69). -/
def receiveByte (b : Byte) (s : State) : Out :=
  if h : s.rxcnt.toNat < 7 then
    if s.rxcnt.toNat + 1 = explen s.dct then .next (enterSuccess (storeByteAt b s s.rxcnt.toNat h))
    else .next (storeByteAt b s s.rxcnt.toNat h)
  else .fault .rspIndexOutOfRange

/-- The tick of a step that is still in READING (43_bus_dispatcher R176). The counter cannot wrap (40_checksum_engine R112). -/
def tickStep (s : State) : Out :=
  if s.input.tick then
    if s.tmr = 0#6 then .fault .timerUnderflow
    else if s.tmr - 1#6 = 0#6 then .next (enterTimeout (s.withTmr (s.tmr - 1#6)))
    else .next (s.withTmr (s.tmr - 1#6))
  else .next s

/-- A step in READING: `rx` first, then `tick` if still in READING (43_bus_dispatcher R173 to R176). -/
def readingStep (s : State) : Out :=
  match s.input.rx with
  | .none => tickStep s
  | .fault => .next (enterTfault s)
  | .byte b => andThen (receiveByte b s) fun t => if t.ds = .reading then tickStep t else .next t

/-- A step in SUCCESS, TIMEOUT or TFAULT (43_bus_dispatcher R181). -/
def leaveOutcome (s : State) : State := (s.withConn false).withDs .closed

end Sys2Proof.Machine
end

