-- ==== Sys2Proof/Machine/CommandFrames.lean ====
section
/-! DEFINITION. The four command frames of the opcode table (spec/30_encoding.md R92). A command frame is carried out by the core as
the write phase of the dispatch that presents it: in WRITING `tx_req` is 1 and `tx_data` is `TXF` (43_bus_dispatcher R161, R162),
and the transport's answer moves the dispatch on (R171, R177). Which frame it is has no influence (R183): the reply length and the
window come from `DCT` (notes/assumptions/5.md, DESIGN CHOICE, safe). -/

namespace Sys2Proof.Machine

/-- The write phase of the frame `f`: the step in WRITING, where the core presents `f` to the transport. In any other state the core
is not presenting `f` and the spec gives it nothing to do with it. -/
def transmitFrame (f : Frame) (s : State) : Out :=
  if s.ds = .writing ∧ s.txf = f then .next (writingStep s) else .refused .frameNotPresented

/-- The meaning of the command frame UnlockAll (30_encoding R92). -/
def execUnlockAll (checksum : Byte) (s : State) : Out := transmitFrame (unlockAllFrame checksum) s

/-- The meaning of the command frame UnlockIndividual (30_encoding R92). -/
def execUnlockIndividual (board lock checksum : Byte) (s : State) : Out :=
  transmitFrame (unlockIndividualFrame board lock checksum) s

/-- The meaning of the command frame QueryIndividual (30_encoding R92). -/
def execQueryIndividual (board lock checksum : Byte) (s : State) : Out :=
  transmitFrame (queryIndividualFrame s.cfg board lock checksum) s

/-- The meaning of the command frame QueryAll (30_encoding R92). -/
def execQueryAll (checksum : Byte) (s : State) : Out := transmitFrame (queryAllFrame s.cfg checksum) s

end Sys2Proof.Machine
end

