-- ==== Sys2Proof/Machine/FrameBuilder.lean ====
section
/-! DEFINITION. The operations BUILD, TPLUA and TPLQA (spec/41_frame_builder.md R120 to R131). -/

namespace Sys2Proof.Machine

/-- The frame of four bytes with the engine's checksum over the bytes emitted (30_encoding R90, 41_frame_builder R122). -/
def sealFrame (header board lock func : Byte) : Frame :=
  { header := header, board := board, lock := lock, func := func, checksum := cks8 header board func lock }

/-- The board byte BUILD emits (41_frame_builder R123). -/
def emittedBoard (cfg : Config) (brd : HostWord) : Byte :=
  if cfg.boardFixed then boardConst else lowByte brd

/-- The frame BUILD makes of operands in range (41_frame_builder R122). -/
def builtFrame (s : State) : Frame :=
  sealFrame (lowByte s.hdr) (emittedBoard s.cfg s.brd) (lowByte s.lck) (lowByte s.fnc)

/-- BUILD at rest (41_frame_builder R122, R129). -/
def buildEffect (s : State) : State :=
  if operandsAreBytes s then
    succeed 2#4 ((s.withFrame (builtFrame s) true).withCks (builtFrame s).checksum)
  else raiseError .malformedInput 2#4 (s.withFrame zeroFrame false)

/-- The meaning of BUILD. -/
def execBuild (s : State) : Out := .next (whenResting s buildEffect)

/-- The template "unlock all doors sequentially" (41_frame_builder R126). -/
def unlockAllTemplate : Frame :=
  { header := 0x8A#8, board := 0x01#8, lock := 0x00#8, func := 0x11#8, checksum := 0x9A#8 }

/-- TPLUA at rest (41_frame_builder R126). -/
def tpluaEffect (s : State) : State := succeed 3#4 (s.withFrame unlockAllTemplate true)

/-- The meaning of TPLUA. -/
def execTplua (s : State) : Out := .next (whenResting s tpluaEffect)

/-- The template "query all door states" (41_frame_builder R127). -/
def queryAllTemplate (queryFc : Byte) : Frame :=
  { header := 0x80#8, board := 0x01#8, lock := 0x00#8, func := queryFc, checksum := 0x81#8 ^^^ queryFc }

/-- TPLQA at rest (41_frame_builder R127). -/
def tplqaEffect (s : State) : State := succeed 4#4 (s.withFrame (queryAllTemplate s.cfg.queryFc) true)

/-- The meaning of TPLQA. -/
def execTplqa (s : State) : Out := .next (whenResting s tplqaEffect)

end Sys2Proof.Machine
end

