-- ==== Sys2Proof/Machine/ResponseDecoder.lean ====
section
/-! DEFINITION. The operations DECODE and ISTAT (spec/42_response_decoder.md R140 to R153), and the readings of the group list
that the spec gives a host: `bin8` (R145), group numbers (R146), one door's bit (R147). -/

namespace Sys2Proof.Machine

/-- The group list of a 7-element response: offsets 2, 3, 4 (42_response_decoder R143). -/
def queryAllGroups (s : State) : Vector Byte 6 :=
  #v[lowByte s.rsp[2], lowByte s.rsp[3], lowByte s.rsp[4], 0#8, 0#8, 0#8]

/-- Element `i` of the group list of a response of `n` elements (42_response_decoder R144). -/
def groupAt (n i : Nat) (e : HostWord) : Byte := if i < n then lowByte e else 0#8

/-- The group list of a response of `n` elements, `n` at most 6: the response itself (42_response_decoder R144). -/
def wholeGroups (s : State) (n : Nat) : Vector Byte 6 :=
  #v[groupAt n 0 s.rsp[0], groupAt n 1 s.rsp[1], groupAt n 2 s.rsp[2],
     groupAt n 3 s.rsp[3], groupAt n 4 s.rsp[4], groupAt n 5 s.rsp[5]]

/-- DECODE at rest (42_response_decoder R141). -/
def decodeEffect (s : State) : State :=
  let n := s.rspLen.toNat
  if 7 < n ∨ elementsAreBytes s n = false then raiseError .malformedInput 6#4 (s.withGroups zeroGroups 0#3)
  else if n = 7 then succeed 6#4 (s.withGroups (queryAllGroups s) 3#3)
  else succeed 6#4 (s.withGroups (wholeGroups s n) (s.rspLen.setWidth 3))

/-- The meaning of DECODE. -/
def execDecode (s : State) : Out := .next (whenResting s decodeEffect)

/-- The class of the status byte of a single-door reply, by command type (42_response_decoder R149). -/
def doorClass (ct : BitVec 4) (status : Byte) : DoorClass :=
  match ct.toNat with
  | 1 => if status = fcUnlock then .unlockFailed else if status = fcOpen then .doorOpen else .unknown
  | 2 => if status = fcUnlock then .locked else if status = fcOpen then .doorOpen else .unknown
  | _ => .none

/-- ISTAT at rest (42_response_decoder R149): the type is checked first (60_exceptions R212). -/
def istatEffect (ct : BitVec 4) (s : State) : State :=
  if 3 < ct.toNat then raiseError .unrecognizedCommandType 7#4 (s.withIstat .none)
  else if s.rspLen ≠ 5#4 ∨ elementsAreBytes s 5 = false then raiseError .malformedInput 7#4 (s.withIstat .none)
  else succeed 7#4 (s.withIstat (doorClass ct (lowByte s.rsp[3])))

/-- The meaning of ISTAT. -/
def execIstat (ct : BitVec 4) (s : State) : Out := .next (whenResting s (istatEffect ct))

/-- `bin8(b)`: eight characters, most significant bit first (00_scope R10, 42_response_decoder R145). -/
def bin8 (b : Byte) : List Char :=
  [7, 6, 5, 4, 3, 2, 1, 0].map fun i => if b.getLsbD i then '1' else '0'

/-- The group list as the host reads it: the first `DGN` elements of `DG` (42_response_decoder R140). -/
def groupList (s : State) : List Byte := s.dg.toList.take s.dgn.toNat

/-- The source's number of the group in `DG[k]` after a QueryAll reply (42_response_decoder R146). -/
def groupNumber (k : Nat) : Nat := 3 - k

/-- Where door `d` (1 to 24) stands in the group list: element and bit, under a bit order (42_response_decoder R147, where the order
is an open parameter: it is an argument here). -/
def doorPosition (order : DoorBitOrder) (d : Nat) : Nat × Nat :=
  let bit := (d - 1) % 8
  (2 - (d - 1) / 8, match order with
    | .lsbIsLowestDoor => bit
    | .msbIsLowestDoor => 7 - bit)

/-- Whether door `d` is locked by the decoded group list, under a bit order (42_response_decoder R145, R147). -/
def doorLocked (order : DoorBitOrder) (s : State) (d : Nat) : Bool :=
  ((s.dg.toList)[(doorPosition order d).1]?.getD 0#8).getLsbD (doorPosition order d).2

end Sys2Proof.Machine
end

