-- ==== Sys2Proof/Machine/Dispatch.lean ====
section
/-! DEFINITION. One arm per row of spec/opcode_table.json. -/

namespace Sys2Proof.Machine

def exec (i : Instr) (s : State) : Host.Outcome State Fault Refusal :=
  match i with
  | .cksum => Sys2Proof.Machine.execCksum s
  | .build => Sys2Proof.Machine.execBuild s
  | .tplua => Sys2Proof.Machine.execTplua s
  | .tplqa => Sys2Proof.Machine.execTplqa s
  | .send port ct => Sys2Proof.Machine.execSend port ct s
  | .decode => Sys2Proof.Machine.execDecode s
  | .istat ct => Sys2Proof.Machine.execIstat ct s
  | .unlockAll c => Sys2Proof.Machine.execUnlockAll c s
  | .unlockIndividual b l c => Sys2Proof.Machine.execUnlockIndividual b l c s
  | .queryIndividual b l c => Sys2Proof.Machine.execQueryIndividual b l c s
  | .queryAll c => Sys2Proof.Machine.execQueryAll c s

end Sys2Proof.Machine
end

