-- ==== Sys2Proof/Machine/Cycle.lean ====
section
/-! DEFINITION. One clock step: reset, the host's access, the dispatcher's transition, in the priority of spec/60_exceptions.md
R211, and the placing of an instruction where the next step takes it. -/

namespace Sys2Proof.Machine

/-- A host write of `OP` with the word `d` (20_memory R65, 30_encoding R84, R87). -/
def startOperation (d : HostWord) (s : State) : Out :=
  match decodeOp d with
  | .ok i => exec i s
  | .error _ => .next (reservedOp s)

/-- The host's access of the step (20_memory R61 to R66). -/
def hostPhase (s : State) : Out :=
  match s.input.host with
  | .none => .next s
  | .read _ => .next s
  | .write a d => if a = opRegister then startOperation d s else .next (writeRegister a d s)

/-- The write phase of the frame buffer: the command frame it holds, or another frame the builder passed through (30_encoding R94),
which goes out alike. -/
def writePhase (s : State) : Out :=
  match decodeFrame s.cfg s.txf with
  | .ok i => exec i s
  | .error _ => .next (writingStep s)

/-- The dispatcher's transition of the step (43_bus_dispatcher R186). -/
def dispatcherPhase (s : State) : Out :=
  match s.ds with
  | .idle => .next s
  | .closed => .next s
  | .opening => .next (openingStep s)
  | .writing => writePhase s
  | .reading => readingStep s
  | .success => .next (leaveOutcome s)
  | .timeout => .next (leaveOutcome s)
  | .tfault => .next (leaveOutcome s)

/-- A step with `rst` = 0: the host's access, and the dispatcher's transition if the step began busy (60_exceptions R211). A host
write refused while busy sets `HZ` only, which no transition reads or writes (notes/assumptions/17.md, DEDUCED, safe). -/
def activePhase (s : State) : Out :=
  andThen (hostPhase s) fun t => if s.busy then dispatcherPhase t else .next t

/-- One clock step (00_scope R11, 60_exceptions R211, 70_reset_and_hazards R230). -/
def cycle (s : State) : Out :=
  andThen (if s.input.rst then .next s.afterRst else activePhase s) fun t => .next t.advance

/-- The input record in which the host writes the word `d` to `OP` and nothing else happens. -/
def opInput (d : HostWord) : Input := { Input.quiet with host := .write opRegister d }

/-- The input record in which the transport has sent the frame and nothing else happens. -/
def sentInput : Input := { Input.quiet with txRsp := .done }

/-- `s` at rest, in the dispatcher state a busy `s` comes to (43_bus_dispatcher R181). -/
def atRest (s : State) : State := if s.busy then leaveOutcome s else s

/-- `s` with the operation word `d` as the host access of its next step (20_memory R65), at rest so that it is accepted. -/
def placeOperation (s : State) (d : HostWord) : State :=
  { atRest s with inputs := opInput d :: s.inputs }

/-- The command type code for a dispatch of `f`: that of its row (30_encoding R92), else the one latched. -/
def latchFor (s : State) (f : Frame) : BitVec 4 :=
  match decodeFrame s.cfg f with
  | .ok i =>
    match i.commandType with
    | some c => c.code
    | none => s.dct
  | .error _ => s.dct

/-- `s` presenting the frame `f` in WRITING, the transport's DONE as its next input. -/
def placeFrame (s : State) (f : Frame) : State :=
  { s with txf := f, txv := true, ds := .writing, conn := true, dct := latchFor s f, inputs := sentInput :: s.inputs }

/-- `s` with the instruction of bits `w` where the next step takes it (notes/assumptions/2.md): an operation word is the host's write
of `OP`, a command frame is `TXF` in WRITING. -/
def placeInstruction (s : State) (nbits w : Nat) : State :=
  match Encoded.ofBits nbits w with
  | .ok (.opWord d) => placeOperation s d
  | .ok (.frame f) => placeFrame s f
  | .error _ => s

end Sys2Proof.Machine
end

