-- ==== Sys2Proof/Machine/Step.lean ====
section
/-! DEFINITION. The step function (spec/00_scope.md R11) and the placing of an instruction for it. -/

namespace Sys2Proof.Machine

/-- One step of the core: one clock period. -/
def step (s : State) : Host.Outcome State Fault Refusal := cycle s

/-- `s` with the instruction of bits `w`, numbered as the opcode table numbers them, where `step` takes its next instruction. -/
def State.withFetchWord (s : State) (nbits w : Nat) : State := placeInstruction s nbits w

end Sys2Proof.Machine
end

