-- ==== Sys2Proof/Machine/Program.lean ====
section
/-! DEFINITION. Host programs (spec/30_encoding.md R101 to R103): the program lines, their host accesses, and the pseudo-operations.
The host that runs them is environment: its accesses reach the core through the input tape (notes/assumptions/14.md, DESIGN CHOICE, safe). -/

namespace Sys2Proof.Machine

/-- A line of a host program (30_encoding R101, R103). -/
inductive ProgramLine where
  | wr (a : RegNum) (d : HostWord)
  | rd (a : RegNum)
  /-- An operation by its mnemonic; the assembler writes its operation word to `OP`. -/
  | op (w : HostWord)
  /-- WAIT: repeat RD STATUS until bit 4 of the value read is 0. -/
  | wait
deriving DecidableEq, Repr

/-- The register number of `STATUS` (10_state R39). -/
def statusRegister : RegNum := 0x05#5

/-- The host access of a line; WAIT reads `STATUS`, again and again (30_encoding R101, R103). -/
def ProgramLine.access : ProgramLine → HostAccess
  | .wr a d => .write a d
  | .rd a => .read a
  | .op w => .write opRegister w
  | .wait => .read statusRegister

/-- WAIT ends when the `STATUS` word read has BUSY = 0 (30_encoding R103). -/
def waitEnds (status : HostWord) : Bool := !status.getLsbD 4

/-- The line SEND port, ct (30_encoding R101). -/
def sendLine (port : Byte) (ct : CommandType) : ProgramLine := .op (opWordOf port ct.code 5)

/-- The line ISTAT ct (30_encoding R101). -/
def istatLine (ct : CommandType) : ProgramLine := .op (opWordOf 0 ct.code 7)

/-- UNLOCK_ALL p (30_encoding R102). -/
def unlockAllProgram (p : Byte) : List ProgramLine :=
  [.op (opWordOf 0 0 3), sendLine p .unlockAll, .wait]

/-- QUERY_ALL p (30_encoding R102). -/
def queryAllProgram (p : Byte) : List ProgramLine :=
  [.op (opWordOf 0 0 4), sendLine p .queryAll, .wait, .op (opWordOf 0 0 6)]

/-- UNLOCK p, d (30_encoding R102). -/
def unlockProgram (p : Byte) (d : HostWord) : List ProgramLine :=
  [.wr 0 0x008A#16, .wr 1 0x0001#16, .wr 2 d, .wr 3 0x0011#16, .op (opWordOf 0 0 2),
   sendLine p .unlockIndividual, .wait, istatLine .unlockIndividual]

/-- QUERY p, d (30_encoding R102). -/
def queryProgram (cfg : Config) (p : Byte) (d : HostWord) : List ProgramLine :=
  [.wr 0 0x0080#16, .wr 1 0x0001#16, .wr 2 d, .wr 3 (zext16 cfg.queryFc), .op (opWordOf 0 0 2),
   sendLine p .queryIndividual, .wait, istatLine .queryIndividual]

end Sys2Proof.Machine
end

