-- ==== Sys2Proof/Machine/Outputs.lean ====
section
/-! DEFINITION. What the core drives: the Moore outputs of spec/43_bus_dispatcher.md R162, the read data of 20_memory R63, and the
source's DispatchResult as it is read from the state (10_state R47). None of it is stored (notes/assumptions/16.md, DEDUCED, safe). -/

namespace Sys2Proof.Machine

/-- The output record without the read data (10_state R45, 43_bus_dispatcher R161). -/
structure Outputs where
  busy : Bool
  openReq : Bool
  portO : Byte
  txReq : Bool
  txData : BitVec 40
  drvEn : Bool
  rxEn : Bool
  closeReq : Bool
deriving DecidableEq, Repr

/-- The outputs of a state (43_bus_dispatcher R162). -/
def outputs (s : State) : Outputs where
  busy := s.busy
  openReq := decide (s.ds = .opening)
  portO := s.dport
  txReq := decide (s.ds = .writing)
  txData := s.txf.toBits
  drvEn := decide (s.ds = .writing)
  rxEn := decide (s.ds = .reading)
  closeReq := decide (s.ds = .success ∨ s.ds = .timeout ∨ s.ds = .tfault) && s.conn

/-- `hrdata`: on a host READ the register's value before the step (20_memory R63), whatever `rst` (70_reset_and_hazards R230). -/
def hrdata (s : State) : Option HostWord :=
  match s.input.host with
  | .read a => some (hostRead s a)
  | .none => none
  | .write _ _ => none

/-- The source's DispatchResult (00_scope R12). -/
inductive DispatchResult where
  | success (reply : List Byte)
  | failure (reason : ErrorKind)
deriving DecidableEq, Repr

/-- The operation code of SEND, which `LASTOP` holds after a SEND (30_encoding R82, 43_bus_dispatcher R165). -/
def sendCode : BitVec 4 := 5#4

/-- The DispatchResult read from the state after a SEND (`LASTOP` = 5) and once BUSY = 0 (10_state R47); none during a dispatch, and
none where the last result is another operation's: that of a SEND is then lost (70_reset_and_hazards R242). It is the dispatch's until
the host's next write (20_memory R73). -/
def dispatchResult (s : State) : Option DispatchResult :=
  if s.busy ∨ s.result.lastOp ≠ sendCode then none
  else match s.result.tag with
    | .none => none
    | .success => some (.success ((s.rsp.toList.take s.rspLen.toNat).map lowByte))
    | .failure => some (.failure s.result.err)

end Sys2Proof.Machine
end

