-- ==== Sys2Proof/Safety.lean ====
section
/-! DEFINITION. What claims about runs speak of: the invariants of spec/10_state.md R42, the values of `RESULT` (60_exceptions R202), the
state a dispatch depends on (10_state R43), and runs over placed input records. -/

namespace Sys2Proof.Machine

/-- A dispatch is waiting or collecting: `DS` is OPENING, WRITING or READING. -/
def DispState.inExchange : DispState → Bool
  | .opening => true
  | .writing => true
  | .reading => true
  | _ => false

/-- `DS` is one of the three outcome states (00_scope R12). -/
def DispState.isOutcome : DispState → Bool
  | .success => true
  | .timeout => true
  | .tfault => true
  | _ => false

/-- The invariants of 10_state R42, item by item (item 1 and the bounds on `RESULT` and `ISTAT` are the types'), with R32's
"exactly while" for WRITING and READING. -/
structure CoreInv (s : State) : Prop where
  /-- Item 2. -/
  connOnlyInDispatch : s.conn = true → s.ds = .writing ∨ s.ds = .reading ∨ s.ds.isOutcome = true
  /-- Item 3, and R32: the connection is open in WRITING and READING. -/
  connHeld : s.ds = .writing ∨ s.ds = .reading ∨ s.ds = .success ∨ s.ds = .timeout → s.conn = true
  /-- Item 4, the frame invariant (41_frame_builder R124). -/
  frameSealed : s.txv = true → s.txf.checksum = cks8 s.txf.header s.txf.board s.txf.func s.txf.lock
  /-- Item 5. -/
  errMatchesTag : s.result.err ≠ .none ↔ s.result.tag = .failure
  /-- Item 6, first half. -/
  groupCount : s.dgn.toNat ≤ 6
  /-- Item 6, second half. -/
  groupsPadded : ∀ i : Fin 6, s.dgn.toNat ≤ i.val → s.dg[i] = 0#8
  /-- Item 7, the timer. -/
  timerInWindow : s.ds = .reading → 1 ≤ s.tmr.toNat ∧ s.tmr.toNat ≤ 40
  /-- Item 7, the reply counter. -/
  replyIncomplete : s.ds = .reading → s.rxcnt.toNat < explen s.dct
  /-- Item 8. -/
  typeLatched : s.dct.toNat ≤ 3
  /-- Item 9, first half. -/
  replyBytes : s.busy = true → ∀ i : Fin 7, isByte s.rsp[i] = true
  /-- Item 9, second half. -/
  noOutcomeYet : s.ds.inExchange = true → s.rspLen = 0#4 ∧ s.result.tag = .none

/-- The values `RESULT` can take (60_exceptions R202), 0x0500 apart. -/
def settledResults : List HostWord :=
  [0x0000#16, 0x0101#16, 0x0201#16, 0x0301#16, 0x0401#16, 0x0601#16, 0x0701#16, 0x0501#16, 0x0506#16, 0x050A#16, 0x050E#16,
   0x0512#16, 0x010E#16, 0x020E#16, 0x060E#16, 0x070E#16, 0x0712#16]

/-- `RESULT` reads 0x0500 while a dispatch is waiting or collecting, and one of the other values of the table at any other time
(60_exceptions R202). -/
def ResultLegal (s : State) : Prop :=
  if s.ds.inExchange then s.result.word = 0x0500#16 else s.result.word ∈ settledResults

/-- Two states alike in all a dispatch in progress depends on and produces (10_state R43); the timer counts in READING only. -/
structure SameDispatch (s t : State) : Prop where
  frame : s.txf = t.txf
  frameValid : s.txv = t.txv
  reply : s.rsp = t.rsp
  replyLength : s.rspLen = t.rspLen
  groups : s.dg = t.dg
  groupCount : s.dgn = t.dgn
  doorClass : s.istat = t.istat
  result : s.result = t.result
  state : s.ds = t.ds
  connection : s.conn = t.conn
  received : s.rxcnt = t.rxcnt
  timer : s.ds = .reading → s.tmr = t.tmr
  commandType : s.dct = t.dct
  port : s.dport = t.dport
  config : s.cfg = t.cfg
  inputs : s.inputs = t.inputs
  clock : s.clock = t.clock

/-- The access is a write. -/
def HostAccess.isWrite : HostAccess → Bool
  | .write _ _ => true
  | .read _ => false
  | .none => false

/-- `s` with its input record used up and, where it began busy, the refusal of a host write recorded
(70_reset_and_hazards R240): what a step does beside the transition of the dispatcher or the host's access. -/
def State.stepped (s : State) : State :=
  { s with
    hz := s.hz || (s.busy && HostAccess.isWrite s.input.host)
    inputs := s.inputs.tail
    clock := s.clock + 1 }

/-- The write phase of the frame that `s` presents, by the transport's answer (43_bus_dispatcher R171, R177, R180), as the meaning of
the command frame `i`. -/
def CarriesOutWrite (i : Instr) (s : State) : Prop :=
  (s.input.txRsp = .none → exec i s = .next s) ∧
  (s.input.txRsp = .done → exec i s = .next
    { s with tmr := if s.dct = 0#4 then 40#6 else 3#6, rxcnt := 0#3, ds := .reading }) ∧
  (s.input.txRsp = .fail → exec i s = .next
    { s with
      ds := .tfault
      result := { tag := .failure, err := .transportUnavailable, lastOp := 5#4 }
      rsp := #v[0#16, 0#16, 0#16, 0#16, 0#16, 0#16, 0#16]
      rspLen := 0#4 })

/-- `t` is the state after `n` steps from `s`, none of which stops. -/
def RunsTo : Nat → State → State → Prop
  | 0, s, t => t = s
  | n + 1, s, t => ∃ u : State, step s = .next u ∧ RunsTo n u t

/-- The number of ticks in a list of input records. -/
def tickCount (l : List Input) : Nat := (l.filter fun i => i.tick).length

/-- No reset and nothing received in any of the records. -/
def silent (l : List Input) : Prop := ∀ i ∈ l, i.rst = false ∧ i.rx = .none

/-- No reset in any of the records. -/
def noReset (l : List Input) : Prop := ∀ i ∈ l, i.rst = false

/-- No reset and no host access in any of the records. -/
def hostQuiet (l : List Input) : Prop := ∀ i ∈ l, i.rst = false ∧ i.host = .none

end Sys2Proof.Machine
end

