-- ==== Sys2Proof/WellFormed.lean ====
section
/-! DEFINITION. Well-formed instructions: what a host must build for each command (spec/30_encoding.md R92, R93). Every
operation word is well formed (R84: the decoder checks no field). notes/assumptions/7.md, DESIGN CHOICE, safe. -/

namespace Sys2Proof

/-- The checksum byte is the engine's over the other four (30_encoding R90, R92). -/
def Frame.checksumOk (f : Frame) : Bool :=
  f.checksum == Machine.cks8 f.header f.board f.func f.lock

/-- The board byte is the emitted one: 0x01 where `BOARD_FIXED` (30_encoding R92). -/
def boardOk (cfg : Config) (board : Byte) : Bool := !cfg.boardFixed || board == boardConst

/-- The lock address is that of one door: 0x00 belongs to the "all doors" commands (30_encoding R92, R93). Door numbers above
24 pass (R94). -/
def lockOfOneDoor (lock : Byte) : Bool := lock != lockAll

/-- The well-formed instructions under a configuration. -/
def Instr.wellFormed (cfg : Config) : Instr → Bool
  | .cksum => true
  | .build => true
  | .tplua => true
  | .tplqa => true
  | .send _ _ => true
  | .decode => true
  | .istat _ => true
  | .unlockAll c => (unlockAllFrame c).checksumOk
  | .unlockIndividual b l c => (unlockIndividualFrame b l c).checksumOk && boardOk cfg b && lockOfOneDoor l
  | .queryIndividual b l c => (queryIndividualFrame cfg b l c).checksumOk && boardOk cfg b && lockOfOneDoor l
  | .queryAll c => (queryAllFrame cfg c).checksumOk

end Sys2Proof
end

