-- ==== Sys2Proof/Certificates/Slice0/Obligations.lean ====
section
/-! DEFINITION. The statements for the provers. Each follows rules of spec/, named in OBLIGATIONS.json. -/

open Sys2Proof Sys2Proof.Machine

/-- 40_checksum_engine R114. -/
def Obligations.CksumFoldsOperandsOrFails : Prop :=
  (∀ d : HostWord, d.extractLsb' 0 4 = 1#4 → decodeOp d = .ok .cksum) ∧
  ∀ s : State,
    (s.busy = true → exec .cksum s = .next { s with hz := true }) ∧
    (s.busy = false → s.hdr.toNat ≤ 0xFF → s.brd.toNat ≤ 0xFF → s.lck.toNat ≤ 0xFF → s.fnc.toNat ≤ 0xFF →
      exec .cksum s = .next
        { s with
          cks := ((s.hdr.extractLsb' 0 8 ^^^ s.brd.extractLsb' 0 8) ^^^ s.fnc.extractLsb' 0 8) ^^^ s.lck.extractLsb' 0 8
          result := { tag := .success, err := .none, lastOp := 1#4 } }) ∧
    (s.busy = false → 0xFF < s.hdr.toNat ∨ 0xFF < s.brd.toNat ∨ 0xFF < s.lck.toNat ∨ 0xFF < s.fnc.toNat →
      exec .cksum s = .next { s with result := { tag := .failure, err := .malformedInput, lastOp := 1#4 } })

/-- 41_frame_builder R122. -/
def Obligations.BuildInjectsChecksumOrErasesFrame : Prop :=
  (∀ d : HostWord, d.extractLsb' 0 4 = 2#4 → decodeOp d = .ok .build) ∧
  ∀ s : State,
    (s.busy = true → exec .build s = .next { s with hz := true }) ∧
    (s.busy = false → s.hdr.toNat ≤ 0xFF → s.brd.toNat ≤ 0xFF → s.lck.toNat ≤ 0xFF → s.fnc.toNat ≤ 0xFF →
      ∀ h b l f c : Byte, h = s.hdr.extractLsb' 0 8 → b = (if s.cfg.boardFixed then 0x01#8 else s.brd.extractLsb' 0 8) →
        l = s.lck.extractLsb' 0 8 → f = s.fnc.extractLsb' 0 8 → c = ((h ^^^ b) ^^^ f) ^^^ l →
        exec .build s = .next
          { s with
            txf := { header := h, board := b, lock := l, func := f, checksum := c }
            txv := true
            cks := c
            result := { tag := .success, err := .none, lastOp := 2#4 } }) ∧
    (s.busy = false → 0xFF < s.hdr.toNat ∨ 0xFF < s.brd.toNat ∨ 0xFF < s.lck.toNat ∨ 0xFF < s.fnc.toNat →
      exec .build s = .next
        { s with
          txf := { header := 0#8, board := 0#8, lock := 0#8, func := 0#8, checksum := 0#8 }
          txv := false
          result := { tag := .failure, err := .malformedInput, lastOp := 2#4 } })

/-- 41_frame_builder R126. -/
def Obligations.TpluaLoadsUnlockAllTemplate : Prop :=
  (∀ d : HostWord, d.extractLsb' 0 4 = 3#4 → decodeOp d = .ok .tplua) ∧
  ∀ s : State,
    (s.busy = true → exec .tplua s = .next { s with hz := true }) ∧
    (s.busy = false → exec .tplua s = .next
      { s with
        txf := { header := 0x8A#8, board := 0x01#8, lock := 0x00#8, func := 0x11#8, checksum := 0x9A#8 }
        txv := true
        result := { tag := .success, err := .none, lastOp := 3#4 } })

/-- 41_frame_builder R127. -/
def Obligations.TplqaLoadsQueryAllTemplate : Prop :=
  (∀ d : HostWord, d.extractLsb' 0 4 = 4#4 → decodeOp d = .ok .tplqa) ∧
  ∀ s : State,
    (s.busy = true → exec .tplqa s = .next { s with hz := true }) ∧
    (s.busy = false → exec .tplqa s = .next
      { s with
        txf := { header := 0x80#8, board := 0x01#8, lock := 0x00#8, func := s.cfg.queryFc,
                 checksum := 0x81#8 ^^^ s.cfg.queryFc }
        txv := true
        result := { tag := .success, err := .none, lastOp := 4#4 } })

/-- 41_frame_builder R128: every template satisfies the frame invariant; and, with `BOARD_FIXED`, BUILD makes each template's
frame of the template's own operands. (The spec marks this as its own inference.) -/
def Obligations.TemplatesAreWhatBuildMakes : Prop :=
  (∀ s u : State, s.busy = false → exec .tplua s = .next u ∨ exec .tplqa s = .next u →
    u.txf.checksum = u.txf.header ^^^ u.txf.board ^^^ u.txf.func ^^^ u.txf.lock) ∧
  ∀ s t u : State, s.busy = false → s.cfg.boardFixed = true → s.brd.toNat ≤ 0xFF → s.lck = 0x0000#16 →
    exec .build s = .next t →
    ((s.hdr = 0x008A#16 → s.fnc = 0x0011#16 → exec .tplua s = .next u → t.txf = u.txf) ∧
     (s.hdr = 0x0080#16 → s.fnc = s.cfg.queryFc.setWidth 16 → exec .tplqa s = .next u → t.txf = u.txf))

/-- 70_reset_and_hazards R246: with `BOARD_FIXED`, the checksums CKSUM and BUILD leave in `CKS` differ by the board operand
against 0x01. (The spec marks this as its own inference.) -/
def Obligations.CksumAndBuildDifferByBoardByte : Prop :=
  ∀ s : State, s.busy = false → s.hdr.toNat ≤ 0xFF → s.brd.toNat ≤ 0xFF → s.lck.toNat ≤ 0xFF → s.fnc.toNat ≤ 0xFF →
    ∃ t u : State, exec .cksum s = .next t ∧ exec .build s = .next u ∧ u.cks = u.txf.checksum ∧
      t.cks ^^^ u.cks = (if s.cfg.boardFixed then s.brd.extractLsb' 0 8 ^^^ 0x01#8 else 0#8)

/-- 43_bus_dispatcher R165: what every SEND does first, and that it is accepted only at rest, alike from IDLE and CLOSED. -/
def Obligations.SendClearsLastExchange : Prop :=
  ∀ (s : State) (port : Byte) (ct : BitVec 4),
    (s.busy = true → exec (.send port ct) s = .next { s with hz := true }) ∧
    (s.busy = false → ∃ (r : Result) (d : DispState) (c : BitVec 4) (p : Byte), r.lastOp = 5#4 ∧
      exec (.send port ct) s = .next
        { s with
          rsp := #v[0#16, 0#16, 0#16, 0#16, 0#16, 0#16, 0#16]
          rspLen := 0#4
          dg := #v[0#8, 0#8, 0#8, 0#8, 0#8, 0#8]
          dgn := 0#3
          istat := .none
          rxcnt := 0#3
          result := r
          ds := d
          dct := c
          dport := p })

/-- 43_bus_dispatcher R166, with R165. -/
def Obligations.SendRejectsUnknownTypeFirst : Prop :=
  ∀ (s : State) (port : Byte) (ct : BitVec 4), s.busy = false → 3 < ct.toNat →
    ∃ t : State, exec (.send port ct) s = .next t ∧
      t =
        { s with
          rsp := #v[0#16, 0#16, 0#16, 0#16, 0#16, 0#16, 0#16]
          rspLen := 0#4
          dg := #v[0#8, 0#8, 0#8, 0#8, 0#8, 0#8]
          dgn := 0#3
          istat := .none
          rxcnt := 0#3
          result := { tag := .failure, err := .unrecognizedCommandType, lastOp := 5#4 }
          ds := .closed } ∧
      t.busy = false ∧ (outputs t).openReq = false ∧ (outputs t).txReq = false ∧ (outputs t).drvEn = false ∧
      (outputs t).rxEn = false ∧ (outputs t).closeReq = false

/-- 43_bus_dispatcher R167, with R165. -/
def Obligations.SendWithoutFrameFails : Prop :=
  ∀ (s : State) (port : Byte) (ct : BitVec 4), s.busy = false → ct.toNat ≤ 3 → s.txv = false →
    ∃ t : State, exec (.send port ct) s = .next t ∧
      t =
        { s with
          rsp := #v[0#16, 0#16, 0#16, 0#16, 0#16, 0#16, 0#16]
          rspLen := 0#4
          dg := #v[0#8, 0#8, 0#8, 0#8, 0#8, 0#8]
          dgn := 0#3
          istat := .none
          rxcnt := 0#3
          result := { tag := .failure, err := .malformedInput, lastOp := 5#4 }
          ds := .closed } ∧
      t.busy = false ∧ (outputs t).openReq = false ∧ (outputs t).txReq = false ∧ (outputs t).drvEn = false ∧
      (outputs t).rxEn = false ∧ (outputs t).closeReq = false

/-- 43_bus_dispatcher R168, with R165. -/
def Obligations.SendAcceptedLatchesAndOpens : Prop :=
  ∀ (s : State) (port : Byte) (ct : BitVec 4), s.busy = false → ct.toNat ≤ 3 → s.txv = true →
    ∃ t : State, exec (.send port ct) s = .next t ∧
      t =
        { s with
          rsp := #v[0#16, 0#16, 0#16, 0#16, 0#16, 0#16, 0#16]
          rspLen := 0#4
          dg := #v[0#8, 0#8, 0#8, 0#8, 0#8, 0#8]
          dgn := 0#3
          istat := .none
          rxcnt := 0#3
          dct := ct
          dport := port
          result := { tag := .none, err := .none, lastOp := 5#4 }
          ds := .opening } ∧
      (outputs t).busy = true ∧ (outputs t).openReq = true ∧ (outputs t).portO = port

/-- 42_response_decoder R141 (with R142 to R144). -/
def Obligations.DecodeListsGroupsOrFails : Prop :=
  (∀ d : HostWord, d.extractLsb' 0 4 = 6#4 → decodeOp d = .ok .decode) ∧
  ∀ s : State,
    (s.busy = true → exec .decode s = .next { s with hz := true }) ∧
    (s.busy = false → (7 < s.rspLen.toNat ∨ ∃ i : Fin 7, i.val < s.rspLen.toNat ∧ 0xFF < s.rsp[i].toNat) →
      exec .decode s = .next
        { s with
          dg := #v[0#8, 0#8, 0#8, 0#8, 0#8, 0#8]
          dgn := 0#3
          result := { tag := .failure, err := .malformedInput, lastOp := 6#4 } }) ∧
    (s.busy = false → s.rspLen.toNat = 7 → (∀ i : Fin 7, s.rsp[i].toNat ≤ 0xFF) →
      exec .decode s = .next
        { s with
          dg := #v[s.rsp[2].extractLsb' 0 8, s.rsp[3].extractLsb' 0 8, s.rsp[4].extractLsb' 0 8, 0#8, 0#8, 0#8]
          dgn := 3#3
          result := { tag := .success, err := .none, lastOp := 6#4 } }) ∧
    (s.busy = false → s.rspLen.toNat ≤ 6 → (∀ i : Fin 7, i.val < s.rspLen.toNat → s.rsp[i].toNat ≤ 0xFF) →
      ∃ g : Vector Byte 6,
        (∀ i : Fin 6, g[i] = if i.val < s.rspLen.toNat then (s.rsp[i.val]'(by omega)).extractLsb' 0 8 else 0#8) ∧
        exec .decode s = .next
          { s with
            dg := g
            dgn := s.rspLen.setWidth 3
            result := { tag := .success, err := .none, lastOp := 6#4 } })

/-- 42_response_decoder R149. -/
def Obligations.IstatClassifiesByCommandType : Prop :=
  (∀ d : HostWord, d.extractLsb' 0 4 = 7#4 → decodeOp d = .ok (.istat (d.extractLsb' 4 4))) ∧
  ∀ (s : State) (ct : BitVec 4),
    (s.busy = true → exec (.istat ct) s = .next { s with hz := true }) ∧
    (s.busy = false → 3 < ct.toNat → exec (.istat ct) s = .next
      { s with istat := .none, result := { tag := .failure, err := .unrecognizedCommandType, lastOp := 7#4 } }) ∧
    (s.busy = false → ct.toNat ≤ 3 → (s.rspLen ≠ 5#4 ∨ ∃ i : Fin 7, i.val < 5 ∧ 0xFF < s.rsp[i].toNat) →
      exec (.istat ct) s = .next
        { s with istat := .none, result := { tag := .failure, err := .malformedInput, lastOp := 7#4 } }) ∧
    (s.busy = false → ct.toNat ≤ 3 → s.rspLen = 5#4 → (∀ i : Fin 7, i.val < 5 → s.rsp[i].toNat ≤ 0xFF) →
      exec (.istat ct) s = .next
        { s with
          istat :=
            if ct = 1#4 then
              if s.rsp[3] = 0x0011#16 then .unlockFailed else if s.rsp[3] = 0x0000#16 then .doorOpen else .unknown
            else if ct = 2#4 then
              if s.rsp[3] = 0x0011#16 then .locked else if s.rsp[3] = 0x0000#16 then .doorOpen else .unknown
            else .none
          result := { tag := .success, err := .none, lastOp := 7#4 } })

/-- The model's choice (notes/assumptions/5.md): a command frame of the opcode table, presented by the core in WRITING, is carried out
as the write phase of 43_bus_dispatcher R171, R177. Each of the four. -/
def Obligations.CommandFramesCarryOutWritePhase : Prop :=
  ∀ s : State, s.ds = .writing →
    (∀ c : Byte, s.txf = { header := 0x8A#8, board := 0x01#8, lock := 0x00#8, func := 0x11#8, checksum := c } →
      CarriesOutWrite (.unlockAll c) s) ∧
    (∀ b l c : Byte, s.txf = { header := 0x8A#8, board := b, lock := l, func := 0x11#8, checksum := c } →
      CarriesOutWrite (.unlockIndividual b l c) s) ∧
    (∀ b l c : Byte, s.txf = { header := 0x80#8, board := b, lock := l, func := s.cfg.queryFc, checksum := c } →
      CarriesOutWrite (.queryIndividual b l c) s) ∧
    (∀ c : Byte, s.txf = { header := 0x80#8, board := 0x01#8, lock := 0x00#8, func := s.cfg.queryFc, checksum := c } →
      CarriesOutWrite (.queryAll c) s)

/-- The model's choice (notes/assumptions/6.md): a command frame the core is not presenting is refused under a name of its own, whatever
the frame. -/
def Obligations.FrameNotPresentedIsRefused : Prop :=
  ∀ (s : State) (i : Instr) (f : Frame), encode s.cfg i = .frame f → s.ds ≠ .writing ∨ s.txf ≠ f →
    exec i s = .refused .frameNotPresented

/-- 20_memory R65, 60_exceptions R211: a step whose host access writes `OP` runs the decoded operation, then the dispatcher's transition
where the step began busy, and uses up its input record. -/
def Obligations.StepRunsDecodedOperation : Prop :=
  ∀ (s : State) (d : HostWord) (i : Instr), s.input.rst = false → s.input.host = .write 0x04#5 d → decodeOp d = .ok i →
    (s.busy = false → step s = andThen (exec i s) fun t => .next { t with inputs := t.inputs.tail, clock := t.clock + 1 }) ∧
    (s.busy = true → step s = andThen (exec i s) fun t => andThen (dispatcherPhase t) fun u =>
      .next { u with inputs := u.inputs.tail, clock := u.clock + 1 })

/-- The model's choice (notes/assumptions/5.md): a step in WRITING without a host write runs the command frame that `TXF` decodes to. -/
def Obligations.StepRunsPresentedCommandFrame : Prop :=
  ∀ (s : State) (i : Instr), s.input.rst = false → HostAccess.isWrite s.input.host = false → s.ds = .writing →
    decodeFrame s.cfg s.txf = .ok i →
    step s = andThen (exec i s) fun t => .next { t with inputs := t.inputs.tail, clock := t.clock + 1 }

/-- The fixed placing of an instruction (notes/assumptions/2.md): the very next step runs exactly it. -/
def Obligations.PlacedInstructionRunsNext : Prop :=
  ∀ (s : State) (w : Nat) (i : Instr),
    (decodeTableWord 16 w = some i →
      step (s.withFetchWord 16 w) =
        andThen (exec i (s.withFetchWord 16 w)) fun t => .next { t with inputs := t.inputs.tail, clock := t.clock + 1 }) ∧
    (s.cfg.queryFc = 0x33#8 → decodeTableWord 40 w = some i →
      step (s.withFetchWord 40 w) =
        andThen (exec i (s.withFetchWord 40 w)) fun t => .next { t with inputs := t.inputs.tail, clock := t.clock + 1 })

/-- 30_encoding R84, R87: the decoder of operation words is total and takes each field as it is. -/
def Obligations.OperationWordsDecodeByOpc : Prop :=
  ∀ d : HostWord,
    (d.extractLsb' 0 4 = 1#4 → decodeOp d = .ok .cksum) ∧
    (d.extractLsb' 0 4 = 2#4 → decodeOp d = .ok .build) ∧
    (d.extractLsb' 0 4 = 3#4 → decodeOp d = .ok .tplua) ∧
    (d.extractLsb' 0 4 = 4#4 → decodeOp d = .ok .tplqa) ∧
    (d.extractLsb' 0 4 = 5#4 → decodeOp d = .ok (.send (d.extractLsb' 8 8) (d.extractLsb' 4 4))) ∧
    (d.extractLsb' 0 4 = 6#4 → decodeOp d = .ok .decode) ∧
    (d.extractLsb' 0 4 = 7#4 → decodeOp d = .ok (.istat (d.extractLsb' 4 4))) ∧
    (d.extractLsb' 0 4 = 0#4 ∨ 8 ≤ (d.extractLsb' 0 4).toNat → decodeOp d = .error (.reservedOpcode (d.extractLsb' 0 4)))

/-- Words written out from the encodings of 30_encoding R80 and R92, with the printed `QUERY_FC`. -/
def Obligations.SampleWordsDecode : Prop :=
  decodeTableWord 16 0x0001 = some .cksum ∧ decodeTableWord 16 0x0002 = some .build ∧
  decodeTableWord 16 0x0795 = some (.send 7#8 9#4) ∧ decodeTableWord 16 0xFF17 = some (.istat 1#4) ∧
  decodeTableWord 16 0x0008 = none ∧
  decodeTableWord 40 0x8A0105119F = some (.unlockIndividual 0x01#8 0x05#8 0x9F#8) ∧
  decodeTableWord 40 0x8A0100119A = some (.unlockAll 0x9A#8) ∧
  decodeTableWord 40 0x80010133B3 = some (.queryIndividual 0x01#8 0x01#8 0xB3#8) ∧
  decodeTableWord 40 0x80010033B2 = some (.queryAll 0xB2#8)

/-- Decoding an encoded well-formed instruction gives it back, for every instruction, operand and configuration. -/
def Obligations.DecodeUndoesEncode : Prop :=
  ∀ (cfg : Config) (i : Instr), i.wellFormed cfg = true → decode cfg (encode cfg i) = .ok i

/-- Encoding a decoded command frame gives the frame back: no two frames stand for one instruction, and no byte is dropped. -/
def Obligations.EncodeUndoesFrameDecode : Prop :=
  ∀ (cfg : Config) (f : Frame) (i : Instr), decodeFrame cfg f = .ok i →
    encode cfg i = .frame f ∧ Frame.ofBits f.toBits = f

/-- 30_encoding R93: header and lock address classify the frame of every well-formed command as its own command type. (The
spec marks this as its own inference.) -/
def Obligations.HeaderAndLockClassifyCommands : Prop :=
  ∀ (cfg : Config) (i : Instr) (f : Frame), i.wellFormed cfg = true → encode cfg i = .frame f →
    f.classify = i.commandType

/-- 70_reset_and_hazards R230: a step with `rst` leaves the reset state, and a host read in it returns the value before the step. The
model's own fields go on (notes/assumptions/12.md). -/
def Obligations.ResetOverridesTheStep : Prop :=
  ∀ s : State, s.input.rst = true →
    step s = .next { State.reset with cfg := s.cfg, inputs := s.inputs.tail, clock := s.clock + 1 } ∧
    ∀ a : RegNum, s.input.host = .read a → hrdata s = some (hostRead s a)

/-- 10_state R44: every reset value. That a host then reads 0 everywhere and every output is 0 is 70_reset_and_hazards R232. (The spec
marks R232 as its own inference from R44.) -/
def Obligations.ResetValuesAreZero : Prop :=
  State.reset.hdr = 0#16 ∧ State.reset.brd = 0#16 ∧ State.reset.lck = 0#16 ∧ State.reset.fnc = 0#16 ∧ State.reset.cks = 0#8 ∧
  State.reset.txf = { header := 0#8, board := 0#8, lock := 0#8, func := 0#8, checksum := 0#8 } ∧ State.reset.txv = false ∧
  (∀ i : Fin 7, State.reset.rsp[i] = 0#16) ∧ State.reset.rspLen = 0#4 ∧ (∀ i : Fin 6, State.reset.dg[i] = 0#8) ∧
  State.reset.dgn = 0#3 ∧ State.reset.istat = .none ∧
  State.reset.result = { tag := .none, err := .none, lastOp := 0#4 } ∧ State.reset.ds = .idle ∧ State.reset.conn = false ∧
  State.reset.rxcnt = 0#3 ∧ State.reset.tmr = 0#6 ∧ State.reset.dct = 0#4 ∧ State.reset.dport = 0#8 ∧
  State.reset.hz = false ∧ State.reset.ill = false ∧ statusWord State.reset = 0x0000#16 ∧
  State.reset.result.word = 0x0000#16 ∧ (∀ a : RegNum, hostRead State.reset a = 0#16) ∧
  outputs State.reset =
    { busy := false, openReq := false, portO := 0#8, txReq := false, txData := 0#40, drvEn := false, rxEn := false,
      closeReq := false }

/-- 20_memory R63: a read returns the value before the step and changes nothing, busy or not. -/
def Obligations.ReadsReturnThePastAndChangeNothing : Prop :=
  ∀ (s : State) (j : Input) (l : List Input) (a : RegNum),
    hrdata { s with inputs := { j with host := .read a } :: l } = some (hostRead s a) ∧
    step { s with inputs := { j with host := .read a } :: l } = step { s with inputs := { j with host := .none } :: l }

/-- 10_state R28: the fields of `STATUS`, with the codes of `DS` (R29) and the meaning of BUSY (R31) written out. -/
def Obligations.StatusFieldsShowState : Prop :=
  ∀ s : State,
    (statusWord s).extractLsb' 0 4 =
      (match s.ds with
      | .idle => 0#4
      | .opening => 1#4
      | .writing => 2#4
      | .reading => 3#4
      | .success => 4#4
      | .timeout => 5#4
      | .tfault => 6#4
      | .closed => 7#4) ∧
    (statusWord s).getLsbD 4 = decide (s.ds ≠ .idle ∧ s.ds ≠ .closed) ∧ (statusWord s).getLsbD 5 = s.conn ∧
    (statusWord s).getLsbD 6 = s.txv ∧ (statusWord s).getLsbD 7 = false ∧ (statusWord s).extractLsb' 8 3 = s.rxcnt ∧
    (statusWord s).getLsbD 11 = false ∧ (statusWord s).getLsbD 12 = s.hz ∧ (statusWord s).getLsbD 13 = s.ill ∧
    (statusWord s).getLsbD 14 = false ∧ (statusWord s).getLsbD 15 = false

/-- 20_memory R64: a write to an RW register at rest stores it and changes nothing else. -/
def Obligations.RegisterWritesStoreWholeWords : Prop :=
  ∀ (s : State) (a : RegNum) (d : HostWord), s.input.rst = false → s.busy = false → s.input.host = .write a d →
    (a = 0x00#5 → step s = .next { s.stepped with hdr := d }) ∧
    (a = 0x01#5 → step s = .next { s.stepped with brd := d }) ∧
    (a = 0x02#5 → step s = .next { s.stepped with lck := d }) ∧
    (a = 0x03#5 → step s = .next { s.stepped with fnc := d }) ∧
    (∀ k : Fin 7, a.toNat = 0x10 + k.val → ∃ r : Vector HostWord 7,
      (∀ i : Fin 7, r[i] = if i = k then d else s.rsp[i]) ∧ step s = .next { s.stepped with rsp := r }) ∧
    (a = 0x17#5 → step s = .next { s.stepped with rspLen := d.extractLsb' 0 4 })

/-- 20_memory R66, 10_state R40: a write to a read-only or unassigned register number at rest sets `ILL` and changes nothing else. -/
def Obligations.UnwritableNumbersSetIllOnly : Prop :=
  ∀ (s : State) (a : RegNum) (d : HostWord), s.input.rst = false → s.busy = false → s.input.host = .write a d →
    (0x05 ≤ a.toNat ∧ a.toNat ≤ 0x0F) ∨ (0x18 ≤ a.toNat ∧ a.toNat ≤ 0x1F) →
    step s = .next { s.stepped with ill := true }

/-- 30_encoding R87: a reserved operation code at rest sets `ILL` and changes nothing else. -/
def Obligations.ReservedOpcodesSetIllOnly : Prop :=
  ∀ (s : State) (d : HostWord), s.input.rst = false → s.busy = false → s.input.host = .write 0x04#5 d →
    d.extractLsb' 0 4 = 0#4 ∨ 8 ≤ (d.extractLsb' 0 4).toNat →
    step s = .next { s.stepped with ill := true }

/-- 70_reset_and_hazards R240, 20_memory R62: a host write while busy has no effect but `HZ`: the step goes as without it. -/
def Obligations.BusyWriteIsRefused : Prop :=
  ∀ (s : State) (j : Input) (l : List Input) (a : RegNum) (d : HostWord) (t : State), s.busy = true → j.rst = false →
    step { s with inputs := { j with host := .none } :: l } = .next t →
    step { s with inputs := { j with host := .write a d } :: l } = .next { t with hz := true }

/-- 43_bus_dispatcher R169, R170: the step in OPENING, by the transport's answer. -/
def Obligations.OpeningFollowsTheAnswer : Prop :=
  ∀ s : State, s.input.rst = false → s.ds = .opening →
    (s.input.openRsp = .ok → step s = .next { s.stepped with conn := true, ds := .writing }) ∧
    (s.input.openRsp = .none → step s = .next s.stepped) ∧
    (s.input.openRsp = .fail → step s = .next
      { s.stepped with
        ds := .tfault
        result := { tag := .failure, err := .transportUnavailable, lastOp := 5#4 }
        rsp := #v[0#16, 0#16, 0#16, 0#16, 0#16, 0#16, 0#16]
        rspLen := 0#4 })

/-- 43_bus_dispatcher R171, R177, R183: the step in WRITING, by the transport's answer, the same for every frame in `TXF`; and what the
core drives meanwhile. -/
def Obligations.WritingFollowsTheAnswerForEveryFrame : Prop :=
  ∀ s : State, s.ds = .writing →
    ((outputs s).txReq = true ∧ (outputs s).drvEn = true ∧
      (outputs s).txData = s.txf.header ++ s.txf.board ++ s.txf.lock ++ s.txf.func ++ s.txf.checksum) ∧
    (s.input.rst = false →
      (s.input.txRsp = .done → step s = .next
        { s.stepped with tmr := if s.dct = 0#4 then 40#6 else 3#6, rxcnt := 0#3, ds := .reading }) ∧
      (s.input.txRsp = .none → step s = .next s.stepped) ∧
      (s.input.txRsp = .fail → step s = .next
        { s.stepped with
          ds := .tfault
          result := { tag := .failure, err := .transportUnavailable, lastOp := 5#4 }
          rsp := #v[0#16, 0#16, 0#16, 0#16, 0#16, 0#16, 0#16]
          rspLen := 0#4 }))

/-- 43_bus_dispatcher R173, R175, R179: the byte that completes the reply gives SUCCESS in its own step, tick or no tick. -/
def Obligations.CompletingByteSucceedsAtOnce : Prop :=
  ∀ (s : State) (b : Byte), s.input.rst = false → s.ds = .reading → s.input.rx = .byte b →
    s.rxcnt.toNat + 1 = explen s.dct →
    ∃ r : Vector HostWord 7, (∀ i : Fin 7, r[i] = if i.val = s.rxcnt.toNat then b.setWidth 16 else s.rsp[i]) ∧
      step s = .next
        { s.stepped with
          rsp := r
          rxcnt := s.rxcnt + 1#3
          ds := .success
          result := { tag := .success, err := .none, lastOp := 5#4 }
          rspLen := if s.dct = 3#4 then 7#4 else 5#4 }

/-- 43_bus_dispatcher R174, R180, R213: a fault in READING ends the dispatch, tick or no tick, and the bytes received are dropped. -/
def Obligations.ReceiveFaultEndsTheDispatch : Prop :=
  ∀ s : State, s.input.rst = false → s.ds = .reading → s.input.rx = .fault →
    step s = .next
      { s.stepped with
        ds := .tfault
        result := { tag := .failure, err := .transportUnavailable, lastOp := 5#4 }
        rsp := #v[0#16, 0#16, 0#16, 0#16, 0#16, 0#16, 0#16]
        rspLen := 0#4 }

/-- 43_bus_dispatcher R173, R176: a step in READING whose `rx` does not end it counts down the window, and stores its byte if any. -/
def Obligations.ReadingCountsTicksAndBytes : Prop :=
  ∀ s : State, s.input.rst = false → s.ds = .reading →
    (s.input.tick = false ∨ 1 < s.tmr.toNat) →
    (s.input.rx = .none → step s = .next
      { s.stepped with tmr := if s.input.tick then s.tmr - 1#6 else s.tmr }) ∧
    (∀ b : Byte, s.input.rx = .byte b → s.rxcnt.toNat < 7 → s.rxcnt.toNat + 1 ≠ explen s.dct →
      ∃ r : Vector HostWord 7, (∀ i : Fin 7, r[i] = if i.val = s.rxcnt.toNat then b.setWidth 16 else s.rsp[i]) ∧
        step s = .next
          { s.stepped with
            rsp := r
            rxcnt := s.rxcnt + 1#3
            tmr := if s.input.tick then s.tmr - 1#6 else s.tmr })

/-- 43_bus_dispatcher R176, R180: the tick at `TMR` = 1 ends an incomplete reply with Timeout; a byte of the same step is counted and
dropped with the rest. -/
def Obligations.LastTickTimesOutAndDropsPartialReply : Prop :=
  ∀ s : State, s.input.rst = false → s.ds = .reading → s.input.tick = true → s.tmr = 1#6 →
    (s.input.rx = .none → step s = .next
      { s.stepped with
        tmr := 0#6
        ds := .timeout
        result := { tag := .failure, err := .timeout, lastOp := 5#4 }
        rsp := #v[0#16, 0#16, 0#16, 0#16, 0#16, 0#16, 0#16]
        rspLen := 0#4 }) ∧
    (∀ b : Byte, s.input.rx = .byte b → s.rxcnt.toNat < 7 → s.rxcnt.toNat + 1 ≠ explen s.dct → step s = .next
      { s.stepped with
        rxcnt := s.rxcnt + 1#3
        tmr := 0#6
        ds := .timeout
        result := { tag := .failure, err := .timeout, lastOp := 5#4 }
        rsp := #v[0#16, 0#16, 0#16, 0#16, 0#16, 0#16, 0#16]
        rspLen := 0#4 })

/-- 43_bus_dispatcher R181: an outcome state lasts one step, during which `close_req` is `CONN`; the outcome does not change. -/
def Obligations.OutcomeStatesCloseInOneStep : Prop :=
  ∀ s : State, s.ds = .success ∨ s.ds = .timeout ∨ s.ds = .tfault →
    (outputs s).closeReq = s.conn ∧
    (s.input.rst = false → step s = .next { s.stepped with conn := false, ds := .closed })

/-- 43_bus_dispatcher R178: the transport inputs that a state does not look at have no influence on its step. -/
def Obligations.UnlistedInputsAreIgnored : Prop :=
  ∀ (s : State) (i j : Input) (l : List Input), i.rst = j.rst → i.host = j.host →
    (s.ds = .opening → i.openRsp = j.openRsp) → (s.ds = .writing → i.txRsp = j.txRsp) →
    (s.ds = .reading → i.rx = j.rx ∧ i.tick = j.tick) →
    step { s with inputs := i :: l } = step { s with inputs := j :: l }

/-- 43_bus_dispatcher R162: the outputs of every dispatcher state; and R188's first sentence: never driving and listening at
once, transmitting only as the driver. (The spec marks this as its own inference.) -/
def Obligations.OutputsFollowTheState : Prop :=
  ∀ s : State,
    (outputs s).portO = s.dport ∧
    (outputs s).txData = s.txf.header ++ s.txf.board ++ s.txf.lock ++ s.txf.func ++ s.txf.checksum ∧
    ((outputs s).busy, (outputs s).openReq, (outputs s).txReq, (outputs s).drvEn, (outputs s).rxEn, (outputs s).closeReq) =
      (match s.ds with
      | .idle => (false, false, false, false, false, false)
      | .opening => (true, true, false, false, false, false)
      | .writing => (true, false, true, true, false, false)
      | .reading => (true, false, false, false, true, false)
      | .success => (true, false, false, false, false, s.conn)
      | .timeout => (true, false, false, false, false, s.conn)
      | .tfault => (true, false, false, false, false, s.conn)
      | .closed => (false, false, false, false, false, false)) ∧
    ((outputs s).drvEn && (outputs s).rxEn) = false ∧ ((outputs s).txReq = true → (outputs s).drvEn = true)

/-- 43_bus_dispatcher R186: the next dispatcher state of every step without reset. -/
def Obligations.DispatcherMovesByTheTable : Prop :=
  ∀ s t : State, s.input.rst = false → step s = .next t →
    (s.ds = .idle ∨ s.ds = .closed → t.ds =
      match s.input.host with
      | .write a d =>
        if a = 0x04#5 ∧ d.extractLsb' 0 4 = 5#4 then
          if 3 < (d.extractLsb' 4 4).toNat then .closed else if s.txv = false then .closed else .opening
        else s.ds
      | _ => s.ds) ∧
    (s.ds = .opening → t.ds = match s.input.openRsp with | .ok => .writing | .fail => .tfault | .none => .opening) ∧
    (s.ds = .writing → t.ds = match s.input.txRsp with | .done => .reading | .fail => .tfault | .none => .writing) ∧
    (s.ds = .reading → t.ds =
      match s.input.rx with
      | .fault => .tfault
      | .none => if s.input.tick = true ∧ s.tmr = 1#6 then .timeout else .reading
      | .byte _ =>
        if s.rxcnt.toNat + 1 = explen s.dct then .success
        else if s.input.tick = true ∧ s.tmr = 1#6 then .timeout else .reading) ∧
    (s.ds = .success ∨ s.ds = .timeout ∨ s.ds = .tfault → t.ds = .closed)

/-- 10_state R42 holds right after reset. (The spec marks this as its own inference.) -/
def Obligations.ResetMeetsInvariants : Prop := CoreInv State.reset

/-- 10_state R42: every step keeps the invariants. (The spec marks this as its own inference.) -/
def Obligations.StepKeepsInvariants : Prop :=
  ∀ s t : State, CoreInv s → step s = .next t → CoreInv t

/-- 20_memory R69, 40_checksum_engine R112: under the invariants no step stops: no index is out of range, no counter wraps,
and nothing is refused. (The spec marks this as its own inference.) -/
def Obligations.NoStepStopsUnderInvariants : Prop :=
  ∀ s : State, CoreInv s → ∃ t : State, step s = .next t

/-- 60_exceptions R202: every step keeps `RESULT` within the table of its values, 0x0500 only while a dispatch is in
progress; and so it is right after reset. (The spec marks this as its own inference.) -/
def Obligations.ResultStaysInTheTable : Prop :=
  ResultLegal State.reset ∧ ∀ s t : State, ResultLegal s → step s = .next t → ResultLegal t

/-- 10_state R36, R37: when the sticky flags are set, and that reset alone clears them. -/
def Obligations.StickyFlagsSetAndKept : Prop :=
  ∀ s t : State, step s = .next t →
    (s.input.rst = true → t.hz = false ∧ t.ill = false) ∧
    (s.input.rst = false →
      (t.hz = true ↔ s.hz = true ∨ (s.busy = true ∧ ∃ a d, s.input.host = .write a d)) ∧
      (t.ill = true ↔ s.ill = true ∨ (s.busy = false ∧ ∃ (a : RegNum) (d : HostWord), s.input.host = .write a d ∧
        ((a = 0x04#5 ∧ (d.extractLsb' 0 4 = 0#4 ∨ 8 ≤ (d.extractLsb' 0 4).toNat)) ∨
         (0x05 ≤ a.toNat ∧ a.toNat ≤ 0x0F) ∨ (0x18 ≤ a.toNat ∧ a.toNat ≤ 0x1F)))))

/-- 10_state R23, 20_memory R75: only reset and the Frame Builder's three operations change the frame buffer, and nothing but
reset changes it while a dispatch is in progress. (The spec marks this as its own inference.) -/
def Obligations.FrameBufferHasOneWriter : Prop :=
  ∀ s t : State, s.input.rst = false → step s = .next t →
    (s.busy = true → t.txf = s.txf ∧ t.txv = s.txv) ∧
    (t.txf ≠ s.txf ∨ t.txv ≠ s.txv → s.busy = false ∧ ∃ d : HostWord, s.input.host = .write 0x04#5 d ∧
      (d.extractLsb' 0 4 = 2#4 ∨ d.extractLsb' 0 4 = 3#4 ∨ d.extractLsb' 0 4 = 4#4))

/-- 10_state R21, R22: an operand register changes only by a host write to its own number at rest, so no operation and no dispatcher transition
writes one; `CKS` changes only by a CKSUM or BUILD that succeeds. -/
def Obligations.OperandsAndCksHaveTheirWriters : Prop :=
  ∀ s t : State, s.input.rst = false → step s = .next t →
    (t.hdr ≠ s.hdr → s.busy = false ∧ s.input.host = .write 0x00#5 t.hdr) ∧
    (t.brd ≠ s.brd → s.busy = false ∧ s.input.host = .write 0x01#5 t.brd) ∧
    (t.lck ≠ s.lck → s.busy = false ∧ s.input.host = .write 0x02#5 t.lck) ∧
    (t.fnc ≠ s.fnc → s.busy = false ∧ s.input.host = .write 0x03#5 t.fnc) ∧
    (t.cks ≠ s.cks → s.busy = false ∧ t.result.tag = .success ∧ ∃ d : HostWord, s.input.host = .write 0x04#5 d ∧
      (d.extractLsb' 0 4 = 1#4 ∨ d.extractLsb' 0 4 = 2#4))

/-- 10_state R39, 20_memory R73: after a write to an RW register at rest a host reads there what was stored, and reads every other register
number as before. -/
def Obligations.ReadAfterRegisterWrite : Prop :=
  ∀ (s t : State) (a : RegNum) (d : HostWord), s.input.rst = false → s.busy = false → s.input.host = .write a d →
    a.toNat ≤ 0x03 ∨ (0x10 ≤ a.toNat ∧ a.toNat ≤ 0x17) → step s = .next t →
    hostRead t a = (if a = 0x17#5 then (d.extractLsb' 0 4).setWidth 16 else d) ∧
    ∀ b : RegNum, b ≠ a → hostRead t b = hostRead s b

/-- 10_state R39, R38, R40: what each host register number reads, with the codes of `RESULT` (R27, 60_exceptions R201) and `ISTAT` (R26)
written out. -/
def Obligations.RegisterMapReads : Prop :=
  ∀ s : State,
    hostRead s 0x00#5 = s.hdr ∧ hostRead s 0x01#5 = s.brd ∧ hostRead s 0x02#5 = s.lck ∧ hostRead s 0x03#5 = s.fnc ∧
    hostRead s 0x04#5 = 0#16 ∧ hostRead s 0x05#5 = statusWord s ∧
    (hostRead s 0x06#5).extractLsb' 0 2 = (match s.result.tag with | .none => 0#2 | .success => 1#2 | .failure => 2#2) ∧
    (hostRead s 0x06#5).extractLsb' 2 3 =
      (match s.result.err with
      | .none => 0#3
      | .transportUnavailable => 1#3
      | .timeout => 2#3
      | .malformedInput => 3#3
      | .unrecognizedCommandType => 4#3) ∧
    (hostRead s 0x06#5).extractLsb' 5 3 = 0#3 ∧ (hostRead s 0x06#5).extractLsb' 8 4 = s.result.lastOp ∧
    (hostRead s 0x06#5).extractLsb' 12 4 = 0#4 ∧
    hostRead s 0x07#5 = s.cks.setWidth 16 ∧ hostRead s 0x08#5 = s.txf.header.setWidth 16 ∧
    hostRead s 0x09#5 = s.txf.board.setWidth 16 ∧ hostRead s 0x0A#5 = s.txf.lock.setWidth 16 ∧
    hostRead s 0x0B#5 = s.txf.func.setWidth 16 ∧ hostRead s 0x0C#5 = s.txf.checksum.setWidth 16 ∧
    (∀ a : RegNum, 0x0D ≤ a.toNat → a.toNat ≤ 0x0F → hostRead s a = 0#16) ∧
    (∀ (a : RegNum) (k : Fin 7), a.toNat = 0x10 + k.val → hostRead s a = s.rsp[k]) ∧
    hostRead s 0x17#5 = s.rspLen.setWidth 16 ∧
    (∀ (a : RegNum) (k : Fin 6), a.toNat = 0x18 + k.val → hostRead s a = s.dg[k].setWidth 16) ∧
    hostRead s 0x1E#5 = s.dgn.setWidth 16 ∧
    hostRead s 0x1F#5 =
      (match s.istat with
      | .none => 0#16
      | .doorOpen => 1#16
      | .locked => 2#16
      | .unlockFailed => 3#16
      | .unknown => 4#16)

/-- 41_frame_builder R123, 70_reset_and_hazards R233: no step changes the configuration, a step with reset neither. That each step
uses up one input record is the model's choice (notes/assumptions/1.md). -/
def Obligations.ConfigurationNeverChanges : Prop :=
  ∀ (n : Nat) (s t : State), RunsTo n s t → t.cfg = s.cfg ∧ t.inputs = s.inputs.drop n ∧ t.clock = s.clock + n

/-- 70_reset_and_hazards R231: the connection opens by an OK answer alone, and is let go only by a step in which `close_req`
was driven, or by reset. (The spec marks this as its own inference.) -/
def Obligations.ConnectionClosedThroughCloseReq : Prop :=
  ∀ s t : State, CoreInv s → s.input.rst = false → step s = .next t →
    (s.conn = false → t.conn = true → s.ds = .opening ∧ s.input.openRsp = .ok) ∧
    (s.conn = true → (t.conn = false ↔ (outputs s).closeReq = true)) ∧
    ((outputs s).closeReq = true → (outputs t).closeReq = false ∧ t.ds = .closed)

/-- 10_state R43: what a dispatch in progress does is the same from two states alike in all it depends on, whatever their
operands, `CKS`, `HZ`, `ILL` and stale timer. (The spec marks this as its own inference.) -/
def Obligations.DispatchDependsOnItsOwnStateOnly : Prop :=
  ∀ s s' t : State, s.busy = true → SameDispatch s s' → step s = .next t →
    ∃ t' : State, step s' = .next t' ∧ SameDispatch t t'

/-- 10_state R43: an accepted SEND brings two resting states with the same frame to states alike in all the dispatch depends
on, whatever else they hold. (The spec marks this as its own inference.) -/
def Obligations.SendForgetsTheEarlierExchange : Prop :=
  ∀ (s s' t t' : State) (port : Byte) (ct : BitVec 4), s.busy = false → s'.busy = false → s.txf = s'.txf → s.txv = true →
    s'.txv = true → s.conn = s'.conn → s.cfg = s'.cfg → s.inputs = s'.inputs → s.clock = s'.clock → ct.toNat ≤ 3 →
    exec (.send port ct) s = .next t → exec (.send port ct) s' = .next t' → SameDispatch t t'

/-- 43_bus_dispatcher R187 item 1: with nothing received, fewer ticks than the window leave the dispatch in READING with the
ticks counted off, and the window's last tick is Timeout in its own step. (The spec marks this as its own inference.) -/
def Obligations.WindowEndsAtItsLastTickExactly : Prop :=
  ∀ (s : State) (l : List Input), s.ds = .reading → s.inputs = l → silent l →
    (tickCount l < s.tmr.toNat → ∃ t : State, RunsTo l.length s t ∧ t.ds = .reading ∧ t.tmr.toNat = s.tmr.toNat - tickCount l ∧
      t.result = s.result) ∧
    (∀ (k : List Input) (i : Input), l = k ++ [i] → i.tick = true → tickCount l = s.tmr.toNat →
      ∃ t : State, RunsTo l.length s t ∧ t.ds = .timeout ∧ t.result = { tag := .failure, err := .timeout, lastOp := 5#4 })

/-- 43_bus_dispatcher R187 items 2 and 3, R175: the bytes of a reply, one a step, with fewer ticks than the window before the last byte's
step, give Success with exactly those bytes in that step, whether or not it brings the expiring tick. The timer has lost exactly the
ticks of the steps before: no byte reloads the window, and the completing step's tick is not handled. (The spec marks R187 as its own
inference.) -/
def Obligations.ReplyBytesGiveSuccessAtTheLast : Prop :=
  ∀ (s : State) (l : List Input) (bs : List Byte), s.ds = .reading → s.rxcnt = 0#3 → s.inputs = l →
    noReset l → l.map (fun i => i.rx) = bs.map RxIn.byte → bs.length = explen s.dct → tickCount l.dropLast < s.tmr.toNat →
    ∃ t : State, RunsTo l.length s t ∧ t.ds = .success ∧ t.result = { tag := .success, err := .none, lastOp := 5#4 } ∧
      t.rspLen.toNat = bs.length ∧ (t.rsp.toList.take bs.length) = bs.map (fun b => b.setWidth 16) ∧
      t.rxcnt.toNat = bs.length ∧ t.tmr.toNat = s.tmr.toNat - tickCount l.dropLast

/-- 43_bus_dispatcher R185, 60_exceptions R220: under F1 to F3, here as finite tapes that answer the open, answer the write
and tick through the longest window, every dispatch that is not reset comes to rest with an outcome; the host is quiet
meanwhile. (The spec marks this as its own inference.) -/
def Obligations.EveryAnsweredDispatchEnds : Prop :=
  ∀ (s : State) (opens writes ticks : List Input) (last : Input), CoreInv s → s.busy = true →
    s.inputs = opens ++ writes ++ ticks ++ [last] → hostQuiet s.inputs →
    (∃ i ∈ opens, i.openRsp ≠ .none) → (∃ i ∈ writes, i.txRsp ≠ .none) → 40 ≤ tickCount ticks →
    ∃ t : State, RunsTo s.inputs.length s t ∧ t.ds = .closed ∧ t.conn = false ∧
      (s.ds.inExchange = true → dispatchResult t ≠ none)

/-- 40_checksum_engine R112: the value of the checksum is the same under any permutation of its arguments. -/
def Obligations.ChecksumIgnoresOrder : Prop :=
  ∀ a b c d : Byte, ∀ l : List Byte, l.Perm [a, b, c, d] → l.foldl (fun x y => x ^^^ y) 0#8 = cks8 a b c d

/-- 40_checksum_engine R113: the re-application law. (The spec marks this as its own inference.) -/
def Obligations.ChecksumReapplication : Prop :=
  ∀ h b f l v c : Byte, c = cks8 h b f l →
    (cks8 h b f l ^^^ v) ^^^ v = cks8 h b f l ∧ c ^^^ h ^^^ b ^^^ f ^^^ l = 0#8 ∧
    cks8 c b f l = h ∧ cks8 h c f l = b ∧ cks8 h b c l = f ∧ cks8 h b f c = l

/-- 42_response_decoder R145, 00_scope R10: the rendering of a byte, most significant bit first. -/
def Obligations.Bin8RendersMostSignificantFirst : Prop :=
  ∀ b : Byte, (bin8 b).length = 8 ∧ ∀ k : Fin 8, (bin8 b)[k.val]? = some (if b.getLsbD (7 - k.val) then '1' else '0')
end

