-- ==== Sys2Proof/Laws/Decode.lean ====
section
/-! SUPPORT. What the decoders can answer. -/

namespace Sys2Proof

/-- A frame that decodes is the encoding of what it decodes to: no bit of a frame is dropped. -/
theorem encode_of_decodeFrame {cfg : Config} {f : Frame} {i : Instr} (h : decodeFrame cfg f = .ok i) :
    encode cfg i = .frame f := by
  obtain ⟨hd, b, l, fn, c⟩ := f
  simp only [decodeFrame] at h
  split at h
  · next hu =>
    obtain ⟨rfl, rfl⟩ := hu
    split at h
    · next ha =>
      obtain ⟨rfl, rfl⟩ := ha
      cases h
      rfl
    · cases h
      rfl
  · split at h
    · next hq =>
      obtain ⟨rfl, rfl⟩ := hq
      split at h
      · next ha =>
        obtain ⟨rfl, rfl⟩ := ha
        cases h
        rfl
      · cases h
        rfl
    · cases h

/-- What an operation word that decodes can be: the seven operations, by its field OPC. -/
theorem decodeOp_cases {d : HostWord} {i : Instr} (h : decodeOp d = .ok i) :
    ((opcField d).toNat = 1 ∧ i = .cksum) ∨ ((opcField d).toNat = 2 ∧ i = .build) ∨ ((opcField d).toNat = 3 ∧ i = .tplua) ∨
    ((opcField d).toNat = 4 ∧ i = .tplqa) ∨ ((opcField d).toNat = 5 ∧ i = .send (portField d) (ctField d)) ∨
    ((opcField d).toNat = 6 ∧ i = .decode) ∨ ((opcField d).toNat = 7 ∧ i = .istat (ctField d)) := by
  unfold decodeOp at h
  split at h <;> simp_all

/-- The fields of a word put together from fields. -/
theorem opcField_opWordOf (port : Byte) (ct opc : BitVec 4) : opcField (opWordOf port ct opc) = opc := by
  ext i hi
  simp [opcField, opWordOf]
  rw [BitVec.getLsbD_append]
  simp [hi]

end Sys2Proof
end

