-- ==== Sys2Proof/Laws/State.lean ====
section
/-! SUPPORT. One lemma per field per named update of State, true by rfl, so that no proof unfolds a record update. -/

namespace Sys2Proof.Machine

variable (s : State)

@[simp] theorem State.withHdr_hdr (d : HostWord) : (s.withHdr d).hdr = d := rfl
@[simp] theorem State.withHdr_brd (d : HostWord) : (s.withHdr d).brd = s.brd := rfl
@[simp] theorem State.withHdr_lck (d : HostWord) : (s.withHdr d).lck = s.lck := rfl
@[simp] theorem State.withHdr_fnc (d : HostWord) : (s.withHdr d).fnc = s.fnc := rfl
@[simp] theorem State.withHdr_cks (d : HostWord) : (s.withHdr d).cks = s.cks := rfl
@[simp] theorem State.withHdr_txf (d : HostWord) : (s.withHdr d).txf = s.txf := rfl
@[simp] theorem State.withHdr_txv (d : HostWord) : (s.withHdr d).txv = s.txv := rfl
@[simp] theorem State.withHdr_rsp (d : HostWord) : (s.withHdr d).rsp = s.rsp := rfl
@[simp] theorem State.withHdr_rspLen (d : HostWord) : (s.withHdr d).rspLen = s.rspLen := rfl
@[simp] theorem State.withHdr_dg (d : HostWord) : (s.withHdr d).dg = s.dg := rfl
@[simp] theorem State.withHdr_dgn (d : HostWord) : (s.withHdr d).dgn = s.dgn := rfl
@[simp] theorem State.withHdr_istat (d : HostWord) : (s.withHdr d).istat = s.istat := rfl
@[simp] theorem State.withHdr_result (d : HostWord) : (s.withHdr d).result = s.result := rfl
@[simp] theorem State.withHdr_ds (d : HostWord) : (s.withHdr d).ds = s.ds := rfl
@[simp] theorem State.withHdr_conn (d : HostWord) : (s.withHdr d).conn = s.conn := rfl
@[simp] theorem State.withHdr_rxcnt (d : HostWord) : (s.withHdr d).rxcnt = s.rxcnt := rfl
@[simp] theorem State.withHdr_tmr (d : HostWord) : (s.withHdr d).tmr = s.tmr := rfl
@[simp] theorem State.withHdr_dct (d : HostWord) : (s.withHdr d).dct = s.dct := rfl
@[simp] theorem State.withHdr_dport (d : HostWord) : (s.withHdr d).dport = s.dport := rfl
@[simp] theorem State.withHdr_hz (d : HostWord) : (s.withHdr d).hz = s.hz := rfl
@[simp] theorem State.withHdr_ill (d : HostWord) : (s.withHdr d).ill = s.ill := rfl
@[simp] theorem State.withHdr_cfg (d : HostWord) : (s.withHdr d).cfg = s.cfg := rfl
@[simp] theorem State.withHdr_inputs (d : HostWord) : (s.withHdr d).inputs = s.inputs := rfl
@[simp] theorem State.withHdr_clock (d : HostWord) : (s.withHdr d).clock = s.clock := rfl
@[simp] theorem State.withHdr_input (d : HostWord) : (s.withHdr d).input = s.input := rfl
@[simp] theorem State.withHdr_busy (d : HostWord) : (s.withHdr d).busy = s.busy := rfl

@[simp] theorem State.withBrd_hdr (d : HostWord) : (s.withBrd d).hdr = s.hdr := rfl
@[simp] theorem State.withBrd_brd (d : HostWord) : (s.withBrd d).brd = d := rfl
@[simp] theorem State.withBrd_lck (d : HostWord) : (s.withBrd d).lck = s.lck := rfl
@[simp] theorem State.withBrd_fnc (d : HostWord) : (s.withBrd d).fnc = s.fnc := rfl
@[simp] theorem State.withBrd_cks (d : HostWord) : (s.withBrd d).cks = s.cks := rfl
@[simp] theorem State.withBrd_txf (d : HostWord) : (s.withBrd d).txf = s.txf := rfl
@[simp] theorem State.withBrd_txv (d : HostWord) : (s.withBrd d).txv = s.txv := rfl
@[simp] theorem State.withBrd_rsp (d : HostWord) : (s.withBrd d).rsp = s.rsp := rfl
@[simp] theorem State.withBrd_rspLen (d : HostWord) : (s.withBrd d).rspLen = s.rspLen := rfl
@[simp] theorem State.withBrd_dg (d : HostWord) : (s.withBrd d).dg = s.dg := rfl
@[simp] theorem State.withBrd_dgn (d : HostWord) : (s.withBrd d).dgn = s.dgn := rfl
@[simp] theorem State.withBrd_istat (d : HostWord) : (s.withBrd d).istat = s.istat := rfl
@[simp] theorem State.withBrd_result (d : HostWord) : (s.withBrd d).result = s.result := rfl
@[simp] theorem State.withBrd_ds (d : HostWord) : (s.withBrd d).ds = s.ds := rfl
@[simp] theorem State.withBrd_conn (d : HostWord) : (s.withBrd d).conn = s.conn := rfl
@[simp] theorem State.withBrd_rxcnt (d : HostWord) : (s.withBrd d).rxcnt = s.rxcnt := rfl
@[simp] theorem State.withBrd_tmr (d : HostWord) : (s.withBrd d).tmr = s.tmr := rfl
@[simp] theorem State.withBrd_dct (d : HostWord) : (s.withBrd d).dct = s.dct := rfl
@[simp] theorem State.withBrd_dport (d : HostWord) : (s.withBrd d).dport = s.dport := rfl
@[simp] theorem State.withBrd_hz (d : HostWord) : (s.withBrd d).hz = s.hz := rfl
@[simp] theorem State.withBrd_ill (d : HostWord) : (s.withBrd d).ill = s.ill := rfl
@[simp] theorem State.withBrd_cfg (d : HostWord) : (s.withBrd d).cfg = s.cfg := rfl
@[simp] theorem State.withBrd_inputs (d : HostWord) : (s.withBrd d).inputs = s.inputs := rfl
@[simp] theorem State.withBrd_clock (d : HostWord) : (s.withBrd d).clock = s.clock := rfl
@[simp] theorem State.withBrd_input (d : HostWord) : (s.withBrd d).input = s.input := rfl
@[simp] theorem State.withBrd_busy (d : HostWord) : (s.withBrd d).busy = s.busy := rfl

@[simp] theorem State.withLck_hdr (d : HostWord) : (s.withLck d).hdr = s.hdr := rfl
@[simp] theorem State.withLck_brd (d : HostWord) : (s.withLck d).brd = s.brd := rfl
@[simp] theorem State.withLck_lck (d : HostWord) : (s.withLck d).lck = d := rfl
@[simp] theorem State.withLck_fnc (d : HostWord) : (s.withLck d).fnc = s.fnc := rfl
@[simp] theorem State.withLck_cks (d : HostWord) : (s.withLck d).cks = s.cks := rfl
@[simp] theorem State.withLck_txf (d : HostWord) : (s.withLck d).txf = s.txf := rfl
@[simp] theorem State.withLck_txv (d : HostWord) : (s.withLck d).txv = s.txv := rfl
@[simp] theorem State.withLck_rsp (d : HostWord) : (s.withLck d).rsp = s.rsp := rfl
@[simp] theorem State.withLck_rspLen (d : HostWord) : (s.withLck d).rspLen = s.rspLen := rfl
@[simp] theorem State.withLck_dg (d : HostWord) : (s.withLck d).dg = s.dg := rfl
@[simp] theorem State.withLck_dgn (d : HostWord) : (s.withLck d).dgn = s.dgn := rfl
@[simp] theorem State.withLck_istat (d : HostWord) : (s.withLck d).istat = s.istat := rfl
@[simp] theorem State.withLck_result (d : HostWord) : (s.withLck d).result = s.result := rfl
@[simp] theorem State.withLck_ds (d : HostWord) : (s.withLck d).ds = s.ds := rfl
@[simp] theorem State.withLck_conn (d : HostWord) : (s.withLck d).conn = s.conn := rfl
@[simp] theorem State.withLck_rxcnt (d : HostWord) : (s.withLck d).rxcnt = s.rxcnt := rfl
@[simp] theorem State.withLck_tmr (d : HostWord) : (s.withLck d).tmr = s.tmr := rfl
@[simp] theorem State.withLck_dct (d : HostWord) : (s.withLck d).dct = s.dct := rfl
@[simp] theorem State.withLck_dport (d : HostWord) : (s.withLck d).dport = s.dport := rfl
@[simp] theorem State.withLck_hz (d : HostWord) : (s.withLck d).hz = s.hz := rfl
@[simp] theorem State.withLck_ill (d : HostWord) : (s.withLck d).ill = s.ill := rfl
@[simp] theorem State.withLck_cfg (d : HostWord) : (s.withLck d).cfg = s.cfg := rfl
@[simp] theorem State.withLck_inputs (d : HostWord) : (s.withLck d).inputs = s.inputs := rfl
@[simp] theorem State.withLck_clock (d : HostWord) : (s.withLck d).clock = s.clock := rfl
@[simp] theorem State.withLck_input (d : HostWord) : (s.withLck d).input = s.input := rfl
@[simp] theorem State.withLck_busy (d : HostWord) : (s.withLck d).busy = s.busy := rfl

@[simp] theorem State.withFnc_hdr (d : HostWord) : (s.withFnc d).hdr = s.hdr := rfl
@[simp] theorem State.withFnc_brd (d : HostWord) : (s.withFnc d).brd = s.brd := rfl
@[simp] theorem State.withFnc_lck (d : HostWord) : (s.withFnc d).lck = s.lck := rfl
@[simp] theorem State.withFnc_fnc (d : HostWord) : (s.withFnc d).fnc = d := rfl
@[simp] theorem State.withFnc_cks (d : HostWord) : (s.withFnc d).cks = s.cks := rfl
@[simp] theorem State.withFnc_txf (d : HostWord) : (s.withFnc d).txf = s.txf := rfl
@[simp] theorem State.withFnc_txv (d : HostWord) : (s.withFnc d).txv = s.txv := rfl
@[simp] theorem State.withFnc_rsp (d : HostWord) : (s.withFnc d).rsp = s.rsp := rfl
@[simp] theorem State.withFnc_rspLen (d : HostWord) : (s.withFnc d).rspLen = s.rspLen := rfl
@[simp] theorem State.withFnc_dg (d : HostWord) : (s.withFnc d).dg = s.dg := rfl
@[simp] theorem State.withFnc_dgn (d : HostWord) : (s.withFnc d).dgn = s.dgn := rfl
@[simp] theorem State.withFnc_istat (d : HostWord) : (s.withFnc d).istat = s.istat := rfl
@[simp] theorem State.withFnc_result (d : HostWord) : (s.withFnc d).result = s.result := rfl
@[simp] theorem State.withFnc_ds (d : HostWord) : (s.withFnc d).ds = s.ds := rfl
@[simp] theorem State.withFnc_conn (d : HostWord) : (s.withFnc d).conn = s.conn := rfl
@[simp] theorem State.withFnc_rxcnt (d : HostWord) : (s.withFnc d).rxcnt = s.rxcnt := rfl
@[simp] theorem State.withFnc_tmr (d : HostWord) : (s.withFnc d).tmr = s.tmr := rfl
@[simp] theorem State.withFnc_dct (d : HostWord) : (s.withFnc d).dct = s.dct := rfl
@[simp] theorem State.withFnc_dport (d : HostWord) : (s.withFnc d).dport = s.dport := rfl
@[simp] theorem State.withFnc_hz (d : HostWord) : (s.withFnc d).hz = s.hz := rfl
@[simp] theorem State.withFnc_ill (d : HostWord) : (s.withFnc d).ill = s.ill := rfl
@[simp] theorem State.withFnc_cfg (d : HostWord) : (s.withFnc d).cfg = s.cfg := rfl
@[simp] theorem State.withFnc_inputs (d : HostWord) : (s.withFnc d).inputs = s.inputs := rfl
@[simp] theorem State.withFnc_clock (d : HostWord) : (s.withFnc d).clock = s.clock := rfl
@[simp] theorem State.withFnc_input (d : HostWord) : (s.withFnc d).input = s.input := rfl
@[simp] theorem State.withFnc_busy (d : HostWord) : (s.withFnc d).busy = s.busy := rfl

@[simp] theorem State.withCks_hdr (c : Byte) : (s.withCks c).hdr = s.hdr := rfl
@[simp] theorem State.withCks_brd (c : Byte) : (s.withCks c).brd = s.brd := rfl
@[simp] theorem State.withCks_lck (c : Byte) : (s.withCks c).lck = s.lck := rfl
@[simp] theorem State.withCks_fnc (c : Byte) : (s.withCks c).fnc = s.fnc := rfl
@[simp] theorem State.withCks_cks (c : Byte) : (s.withCks c).cks = c := rfl
@[simp] theorem State.withCks_txf (c : Byte) : (s.withCks c).txf = s.txf := rfl
@[simp] theorem State.withCks_txv (c : Byte) : (s.withCks c).txv = s.txv := rfl
@[simp] theorem State.withCks_rsp (c : Byte) : (s.withCks c).rsp = s.rsp := rfl
@[simp] theorem State.withCks_rspLen (c : Byte) : (s.withCks c).rspLen = s.rspLen := rfl
@[simp] theorem State.withCks_dg (c : Byte) : (s.withCks c).dg = s.dg := rfl
@[simp] theorem State.withCks_dgn (c : Byte) : (s.withCks c).dgn = s.dgn := rfl
@[simp] theorem State.withCks_istat (c : Byte) : (s.withCks c).istat = s.istat := rfl
@[simp] theorem State.withCks_result (c : Byte) : (s.withCks c).result = s.result := rfl
@[simp] theorem State.withCks_ds (c : Byte) : (s.withCks c).ds = s.ds := rfl
@[simp] theorem State.withCks_conn (c : Byte) : (s.withCks c).conn = s.conn := rfl
@[simp] theorem State.withCks_rxcnt (c : Byte) : (s.withCks c).rxcnt = s.rxcnt := rfl
@[simp] theorem State.withCks_tmr (c : Byte) : (s.withCks c).tmr = s.tmr := rfl
@[simp] theorem State.withCks_dct (c : Byte) : (s.withCks c).dct = s.dct := rfl
@[simp] theorem State.withCks_dport (c : Byte) : (s.withCks c).dport = s.dport := rfl
@[simp] theorem State.withCks_hz (c : Byte) : (s.withCks c).hz = s.hz := rfl
@[simp] theorem State.withCks_ill (c : Byte) : (s.withCks c).ill = s.ill := rfl
@[simp] theorem State.withCks_cfg (c : Byte) : (s.withCks c).cfg = s.cfg := rfl
@[simp] theorem State.withCks_inputs (c : Byte) : (s.withCks c).inputs = s.inputs := rfl
@[simp] theorem State.withCks_clock (c : Byte) : (s.withCks c).clock = s.clock := rfl
@[simp] theorem State.withCks_input (c : Byte) : (s.withCks c).input = s.input := rfl
@[simp] theorem State.withCks_busy (c : Byte) : (s.withCks c).busy = s.busy := rfl

@[simp] theorem State.withFrame_hdr (f : Frame) (v : Bool) : (s.withFrame f v).hdr = s.hdr := rfl
@[simp] theorem State.withFrame_brd (f : Frame) (v : Bool) : (s.withFrame f v).brd = s.brd := rfl
@[simp] theorem State.withFrame_lck (f : Frame) (v : Bool) : (s.withFrame f v).lck = s.lck := rfl
@[simp] theorem State.withFrame_fnc (f : Frame) (v : Bool) : (s.withFrame f v).fnc = s.fnc := rfl
@[simp] theorem State.withFrame_cks (f : Frame) (v : Bool) : (s.withFrame f v).cks = s.cks := rfl
@[simp] theorem State.withFrame_txf (f : Frame) (v : Bool) : (s.withFrame f v).txf = f := rfl
@[simp] theorem State.withFrame_txv (f : Frame) (v : Bool) : (s.withFrame f v).txv = v := rfl
@[simp] theorem State.withFrame_rsp (f : Frame) (v : Bool) : (s.withFrame f v).rsp = s.rsp := rfl
@[simp] theorem State.withFrame_rspLen (f : Frame) (v : Bool) : (s.withFrame f v).rspLen = s.rspLen := rfl
@[simp] theorem State.withFrame_dg (f : Frame) (v : Bool) : (s.withFrame f v).dg = s.dg := rfl
@[simp] theorem State.withFrame_dgn (f : Frame) (v : Bool) : (s.withFrame f v).dgn = s.dgn := rfl
@[simp] theorem State.withFrame_istat (f : Frame) (v : Bool) : (s.withFrame f v).istat = s.istat := rfl
@[simp] theorem State.withFrame_result (f : Frame) (v : Bool) : (s.withFrame f v).result = s.result := rfl
@[simp] theorem State.withFrame_ds (f : Frame) (v : Bool) : (s.withFrame f v).ds = s.ds := rfl
@[simp] theorem State.withFrame_conn (f : Frame) (v : Bool) : (s.withFrame f v).conn = s.conn := rfl
@[simp] theorem State.withFrame_rxcnt (f : Frame) (v : Bool) : (s.withFrame f v).rxcnt = s.rxcnt := rfl
@[simp] theorem State.withFrame_tmr (f : Frame) (v : Bool) : (s.withFrame f v).tmr = s.tmr := rfl
@[simp] theorem State.withFrame_dct (f : Frame) (v : Bool) : (s.withFrame f v).dct = s.dct := rfl
@[simp] theorem State.withFrame_dport (f : Frame) (v : Bool) : (s.withFrame f v).dport = s.dport := rfl
@[simp] theorem State.withFrame_hz (f : Frame) (v : Bool) : (s.withFrame f v).hz = s.hz := rfl
@[simp] theorem State.withFrame_ill (f : Frame) (v : Bool) : (s.withFrame f v).ill = s.ill := rfl
@[simp] theorem State.withFrame_cfg (f : Frame) (v : Bool) : (s.withFrame f v).cfg = s.cfg := rfl
@[simp] theorem State.withFrame_inputs (f : Frame) (v : Bool) : (s.withFrame f v).inputs = s.inputs := rfl
@[simp] theorem State.withFrame_clock (f : Frame) (v : Bool) : (s.withFrame f v).clock = s.clock := rfl
@[simp] theorem State.withFrame_input (f : Frame) (v : Bool) : (s.withFrame f v).input = s.input := rfl
@[simp] theorem State.withFrame_busy (f : Frame) (v : Bool) : (s.withFrame f v).busy = s.busy := rfl

@[simp] theorem State.withRsp_hdr (r : Vector HostWord 7) : (s.withRsp r).hdr = s.hdr := rfl
@[simp] theorem State.withRsp_brd (r : Vector HostWord 7) : (s.withRsp r).brd = s.brd := rfl
@[simp] theorem State.withRsp_lck (r : Vector HostWord 7) : (s.withRsp r).lck = s.lck := rfl
@[simp] theorem State.withRsp_fnc (r : Vector HostWord 7) : (s.withRsp r).fnc = s.fnc := rfl
@[simp] theorem State.withRsp_cks (r : Vector HostWord 7) : (s.withRsp r).cks = s.cks := rfl
@[simp] theorem State.withRsp_txf (r : Vector HostWord 7) : (s.withRsp r).txf = s.txf := rfl
@[simp] theorem State.withRsp_txv (r : Vector HostWord 7) : (s.withRsp r).txv = s.txv := rfl
@[simp] theorem State.withRsp_rsp (r : Vector HostWord 7) : (s.withRsp r).rsp = r := rfl
@[simp] theorem State.withRsp_rspLen (r : Vector HostWord 7) : (s.withRsp r).rspLen = s.rspLen := rfl
@[simp] theorem State.withRsp_dg (r : Vector HostWord 7) : (s.withRsp r).dg = s.dg := rfl
@[simp] theorem State.withRsp_dgn (r : Vector HostWord 7) : (s.withRsp r).dgn = s.dgn := rfl
@[simp] theorem State.withRsp_istat (r : Vector HostWord 7) : (s.withRsp r).istat = s.istat := rfl
@[simp] theorem State.withRsp_result (r : Vector HostWord 7) : (s.withRsp r).result = s.result := rfl
@[simp] theorem State.withRsp_ds (r : Vector HostWord 7) : (s.withRsp r).ds = s.ds := rfl
@[simp] theorem State.withRsp_conn (r : Vector HostWord 7) : (s.withRsp r).conn = s.conn := rfl
@[simp] theorem State.withRsp_rxcnt (r : Vector HostWord 7) : (s.withRsp r).rxcnt = s.rxcnt := rfl
@[simp] theorem State.withRsp_tmr (r : Vector HostWord 7) : (s.withRsp r).tmr = s.tmr := rfl
@[simp] theorem State.withRsp_dct (r : Vector HostWord 7) : (s.withRsp r).dct = s.dct := rfl
@[simp] theorem State.withRsp_dport (r : Vector HostWord 7) : (s.withRsp r).dport = s.dport := rfl
@[simp] theorem State.withRsp_hz (r : Vector HostWord 7) : (s.withRsp r).hz = s.hz := rfl
@[simp] theorem State.withRsp_ill (r : Vector HostWord 7) : (s.withRsp r).ill = s.ill := rfl
@[simp] theorem State.withRsp_cfg (r : Vector HostWord 7) : (s.withRsp r).cfg = s.cfg := rfl
@[simp] theorem State.withRsp_inputs (r : Vector HostWord 7) : (s.withRsp r).inputs = s.inputs := rfl
@[simp] theorem State.withRsp_clock (r : Vector HostWord 7) : (s.withRsp r).clock = s.clock := rfl
@[simp] theorem State.withRsp_input (r : Vector HostWord 7) : (s.withRsp r).input = s.input := rfl
@[simp] theorem State.withRsp_busy (r : Vector HostWord 7) : (s.withRsp r).busy = s.busy := rfl

@[simp] theorem State.withRspLen_hdr (n : BitVec 4) : (s.withRspLen n).hdr = s.hdr := rfl
@[simp] theorem State.withRspLen_brd (n : BitVec 4) : (s.withRspLen n).brd = s.brd := rfl
@[simp] theorem State.withRspLen_lck (n : BitVec 4) : (s.withRspLen n).lck = s.lck := rfl
@[simp] theorem State.withRspLen_fnc (n : BitVec 4) : (s.withRspLen n).fnc = s.fnc := rfl
@[simp] theorem State.withRspLen_cks (n : BitVec 4) : (s.withRspLen n).cks = s.cks := rfl
@[simp] theorem State.withRspLen_txf (n : BitVec 4) : (s.withRspLen n).txf = s.txf := rfl
@[simp] theorem State.withRspLen_txv (n : BitVec 4) : (s.withRspLen n).txv = s.txv := rfl
@[simp] theorem State.withRspLen_rsp (n : BitVec 4) : (s.withRspLen n).rsp = s.rsp := rfl
@[simp] theorem State.withRspLen_rspLen (n : BitVec 4) : (s.withRspLen n).rspLen = n := rfl
@[simp] theorem State.withRspLen_dg (n : BitVec 4) : (s.withRspLen n).dg = s.dg := rfl
@[simp] theorem State.withRspLen_dgn (n : BitVec 4) : (s.withRspLen n).dgn = s.dgn := rfl
@[simp] theorem State.withRspLen_istat (n : BitVec 4) : (s.withRspLen n).istat = s.istat := rfl
@[simp] theorem State.withRspLen_result (n : BitVec 4) : (s.withRspLen n).result = s.result := rfl
@[simp] theorem State.withRspLen_ds (n : BitVec 4) : (s.withRspLen n).ds = s.ds := rfl
@[simp] theorem State.withRspLen_conn (n : BitVec 4) : (s.withRspLen n).conn = s.conn := rfl
@[simp] theorem State.withRspLen_rxcnt (n : BitVec 4) : (s.withRspLen n).rxcnt = s.rxcnt := rfl
@[simp] theorem State.withRspLen_tmr (n : BitVec 4) : (s.withRspLen n).tmr = s.tmr := rfl
@[simp] theorem State.withRspLen_dct (n : BitVec 4) : (s.withRspLen n).dct = s.dct := rfl
@[simp] theorem State.withRspLen_dport (n : BitVec 4) : (s.withRspLen n).dport = s.dport := rfl
@[simp] theorem State.withRspLen_hz (n : BitVec 4) : (s.withRspLen n).hz = s.hz := rfl
@[simp] theorem State.withRspLen_ill (n : BitVec 4) : (s.withRspLen n).ill = s.ill := rfl
@[simp] theorem State.withRspLen_cfg (n : BitVec 4) : (s.withRspLen n).cfg = s.cfg := rfl
@[simp] theorem State.withRspLen_inputs (n : BitVec 4) : (s.withRspLen n).inputs = s.inputs := rfl
@[simp] theorem State.withRspLen_clock (n : BitVec 4) : (s.withRspLen n).clock = s.clock := rfl
@[simp] theorem State.withRspLen_input (n : BitVec 4) : (s.withRspLen n).input = s.input := rfl
@[simp] theorem State.withRspLen_busy (n : BitVec 4) : (s.withRspLen n).busy = s.busy := rfl

@[simp] theorem State.withGroups_hdr (g : Vector Byte 6) (n : BitVec 3) : (s.withGroups g n).hdr = s.hdr := rfl
@[simp] theorem State.withGroups_brd (g : Vector Byte 6) (n : BitVec 3) : (s.withGroups g n).brd = s.brd := rfl
@[simp] theorem State.withGroups_lck (g : Vector Byte 6) (n : BitVec 3) : (s.withGroups g n).lck = s.lck := rfl
@[simp] theorem State.withGroups_fnc (g : Vector Byte 6) (n : BitVec 3) : (s.withGroups g n).fnc = s.fnc := rfl
@[simp] theorem State.withGroups_cks (g : Vector Byte 6) (n : BitVec 3) : (s.withGroups g n).cks = s.cks := rfl
@[simp] theorem State.withGroups_txf (g : Vector Byte 6) (n : BitVec 3) : (s.withGroups g n).txf = s.txf := rfl
@[simp] theorem State.withGroups_txv (g : Vector Byte 6) (n : BitVec 3) : (s.withGroups g n).txv = s.txv := rfl
@[simp] theorem State.withGroups_rsp (g : Vector Byte 6) (n : BitVec 3) : (s.withGroups g n).rsp = s.rsp := rfl
@[simp] theorem State.withGroups_rspLen (g : Vector Byte 6) (n : BitVec 3) : (s.withGroups g n).rspLen = s.rspLen := rfl
@[simp] theorem State.withGroups_dg (g : Vector Byte 6) (n : BitVec 3) : (s.withGroups g n).dg = g := rfl
@[simp] theorem State.withGroups_dgn (g : Vector Byte 6) (n : BitVec 3) : (s.withGroups g n).dgn = n := rfl
@[simp] theorem State.withGroups_istat (g : Vector Byte 6) (n : BitVec 3) : (s.withGroups g n).istat = s.istat := rfl
@[simp] theorem State.withGroups_result (g : Vector Byte 6) (n : BitVec 3) : (s.withGroups g n).result = s.result := rfl
@[simp] theorem State.withGroups_ds (g : Vector Byte 6) (n : BitVec 3) : (s.withGroups g n).ds = s.ds := rfl
@[simp] theorem State.withGroups_conn (g : Vector Byte 6) (n : BitVec 3) : (s.withGroups g n).conn = s.conn := rfl
@[simp] theorem State.withGroups_rxcnt (g : Vector Byte 6) (n : BitVec 3) : (s.withGroups g n).rxcnt = s.rxcnt := rfl
@[simp] theorem State.withGroups_tmr (g : Vector Byte 6) (n : BitVec 3) : (s.withGroups g n).tmr = s.tmr := rfl
@[simp] theorem State.withGroups_dct (g : Vector Byte 6) (n : BitVec 3) : (s.withGroups g n).dct = s.dct := rfl
@[simp] theorem State.withGroups_dport (g : Vector Byte 6) (n : BitVec 3) : (s.withGroups g n).dport = s.dport := rfl
@[simp] theorem State.withGroups_hz (g : Vector Byte 6) (n : BitVec 3) : (s.withGroups g n).hz = s.hz := rfl
@[simp] theorem State.withGroups_ill (g : Vector Byte 6) (n : BitVec 3) : (s.withGroups g n).ill = s.ill := rfl
@[simp] theorem State.withGroups_cfg (g : Vector Byte 6) (n : BitVec 3) : (s.withGroups g n).cfg = s.cfg := rfl
@[simp] theorem State.withGroups_inputs (g : Vector Byte 6) (n : BitVec 3) : (s.withGroups g n).inputs = s.inputs := rfl
@[simp] theorem State.withGroups_clock (g : Vector Byte 6) (n : BitVec 3) : (s.withGroups g n).clock = s.clock := rfl
@[simp] theorem State.withGroups_input (g : Vector Byte 6) (n : BitVec 3) : (s.withGroups g n).input = s.input := rfl
@[simp] theorem State.withGroups_busy (g : Vector Byte 6) (n : BitVec 3) : (s.withGroups g n).busy = s.busy := rfl

@[simp] theorem State.withIstat_hdr (c : DoorClass) : (s.withIstat c).hdr = s.hdr := rfl
@[simp] theorem State.withIstat_brd (c : DoorClass) : (s.withIstat c).brd = s.brd := rfl
@[simp] theorem State.withIstat_lck (c : DoorClass) : (s.withIstat c).lck = s.lck := rfl
@[simp] theorem State.withIstat_fnc (c : DoorClass) : (s.withIstat c).fnc = s.fnc := rfl
@[simp] theorem State.withIstat_cks (c : DoorClass) : (s.withIstat c).cks = s.cks := rfl
@[simp] theorem State.withIstat_txf (c : DoorClass) : (s.withIstat c).txf = s.txf := rfl
@[simp] theorem State.withIstat_txv (c : DoorClass) : (s.withIstat c).txv = s.txv := rfl
@[simp] theorem State.withIstat_rsp (c : DoorClass) : (s.withIstat c).rsp = s.rsp := rfl
@[simp] theorem State.withIstat_rspLen (c : DoorClass) : (s.withIstat c).rspLen = s.rspLen := rfl
@[simp] theorem State.withIstat_dg (c : DoorClass) : (s.withIstat c).dg = s.dg := rfl
@[simp] theorem State.withIstat_dgn (c : DoorClass) : (s.withIstat c).dgn = s.dgn := rfl
@[simp] theorem State.withIstat_istat (c : DoorClass) : (s.withIstat c).istat = c := rfl
@[simp] theorem State.withIstat_result (c : DoorClass) : (s.withIstat c).result = s.result := rfl
@[simp] theorem State.withIstat_ds (c : DoorClass) : (s.withIstat c).ds = s.ds := rfl
@[simp] theorem State.withIstat_conn (c : DoorClass) : (s.withIstat c).conn = s.conn := rfl
@[simp] theorem State.withIstat_rxcnt (c : DoorClass) : (s.withIstat c).rxcnt = s.rxcnt := rfl
@[simp] theorem State.withIstat_tmr (c : DoorClass) : (s.withIstat c).tmr = s.tmr := rfl
@[simp] theorem State.withIstat_dct (c : DoorClass) : (s.withIstat c).dct = s.dct := rfl
@[simp] theorem State.withIstat_dport (c : DoorClass) : (s.withIstat c).dport = s.dport := rfl
@[simp] theorem State.withIstat_hz (c : DoorClass) : (s.withIstat c).hz = s.hz := rfl
@[simp] theorem State.withIstat_ill (c : DoorClass) : (s.withIstat c).ill = s.ill := rfl
@[simp] theorem State.withIstat_cfg (c : DoorClass) : (s.withIstat c).cfg = s.cfg := rfl
@[simp] theorem State.withIstat_inputs (c : DoorClass) : (s.withIstat c).inputs = s.inputs := rfl
@[simp] theorem State.withIstat_clock (c : DoorClass) : (s.withIstat c).clock = s.clock := rfl
@[simp] theorem State.withIstat_input (c : DoorClass) : (s.withIstat c).input = s.input := rfl
@[simp] theorem State.withIstat_busy (c : DoorClass) : (s.withIstat c).busy = s.busy := rfl

@[simp] theorem State.withResult_hdr (r : Result) : (s.withResult r).hdr = s.hdr := rfl
@[simp] theorem State.withResult_brd (r : Result) : (s.withResult r).brd = s.brd := rfl
@[simp] theorem State.withResult_lck (r : Result) : (s.withResult r).lck = s.lck := rfl
@[simp] theorem State.withResult_fnc (r : Result) : (s.withResult r).fnc = s.fnc := rfl
@[simp] theorem State.withResult_cks (r : Result) : (s.withResult r).cks = s.cks := rfl
@[simp] theorem State.withResult_txf (r : Result) : (s.withResult r).txf = s.txf := rfl
@[simp] theorem State.withResult_txv (r : Result) : (s.withResult r).txv = s.txv := rfl
@[simp] theorem State.withResult_rsp (r : Result) : (s.withResult r).rsp = s.rsp := rfl
@[simp] theorem State.withResult_rspLen (r : Result) : (s.withResult r).rspLen = s.rspLen := rfl
@[simp] theorem State.withResult_dg (r : Result) : (s.withResult r).dg = s.dg := rfl
@[simp] theorem State.withResult_dgn (r : Result) : (s.withResult r).dgn = s.dgn := rfl
@[simp] theorem State.withResult_istat (r : Result) : (s.withResult r).istat = s.istat := rfl
@[simp] theorem State.withResult_result (r : Result) : (s.withResult r).result = r := rfl
@[simp] theorem State.withResult_ds (r : Result) : (s.withResult r).ds = s.ds := rfl
@[simp] theorem State.withResult_conn (r : Result) : (s.withResult r).conn = s.conn := rfl
@[simp] theorem State.withResult_rxcnt (r : Result) : (s.withResult r).rxcnt = s.rxcnt := rfl
@[simp] theorem State.withResult_tmr (r : Result) : (s.withResult r).tmr = s.tmr := rfl
@[simp] theorem State.withResult_dct (r : Result) : (s.withResult r).dct = s.dct := rfl
@[simp] theorem State.withResult_dport (r : Result) : (s.withResult r).dport = s.dport := rfl
@[simp] theorem State.withResult_hz (r : Result) : (s.withResult r).hz = s.hz := rfl
@[simp] theorem State.withResult_ill (r : Result) : (s.withResult r).ill = s.ill := rfl
@[simp] theorem State.withResult_cfg (r : Result) : (s.withResult r).cfg = s.cfg := rfl
@[simp] theorem State.withResult_inputs (r : Result) : (s.withResult r).inputs = s.inputs := rfl
@[simp] theorem State.withResult_clock (r : Result) : (s.withResult r).clock = s.clock := rfl
@[simp] theorem State.withResult_input (r : Result) : (s.withResult r).input = s.input := rfl
@[simp] theorem State.withResult_busy (r : Result) : (s.withResult r).busy = s.busy := rfl

@[simp] theorem State.withDs_hdr (d : DispState) : (s.withDs d).hdr = s.hdr := rfl
@[simp] theorem State.withDs_brd (d : DispState) : (s.withDs d).brd = s.brd := rfl
@[simp] theorem State.withDs_lck (d : DispState) : (s.withDs d).lck = s.lck := rfl
@[simp] theorem State.withDs_fnc (d : DispState) : (s.withDs d).fnc = s.fnc := rfl
@[simp] theorem State.withDs_cks (d : DispState) : (s.withDs d).cks = s.cks := rfl
@[simp] theorem State.withDs_txf (d : DispState) : (s.withDs d).txf = s.txf := rfl
@[simp] theorem State.withDs_txv (d : DispState) : (s.withDs d).txv = s.txv := rfl
@[simp] theorem State.withDs_rsp (d : DispState) : (s.withDs d).rsp = s.rsp := rfl
@[simp] theorem State.withDs_rspLen (d : DispState) : (s.withDs d).rspLen = s.rspLen := rfl
@[simp] theorem State.withDs_dg (d : DispState) : (s.withDs d).dg = s.dg := rfl
@[simp] theorem State.withDs_dgn (d : DispState) : (s.withDs d).dgn = s.dgn := rfl
@[simp] theorem State.withDs_istat (d : DispState) : (s.withDs d).istat = s.istat := rfl
@[simp] theorem State.withDs_result (d : DispState) : (s.withDs d).result = s.result := rfl
@[simp] theorem State.withDs_ds (d : DispState) : (s.withDs d).ds = d := rfl
@[simp] theorem State.withDs_conn (d : DispState) : (s.withDs d).conn = s.conn := rfl
@[simp] theorem State.withDs_rxcnt (d : DispState) : (s.withDs d).rxcnt = s.rxcnt := rfl
@[simp] theorem State.withDs_tmr (d : DispState) : (s.withDs d).tmr = s.tmr := rfl
@[simp] theorem State.withDs_dct (d : DispState) : (s.withDs d).dct = s.dct := rfl
@[simp] theorem State.withDs_dport (d : DispState) : (s.withDs d).dport = s.dport := rfl
@[simp] theorem State.withDs_hz (d : DispState) : (s.withDs d).hz = s.hz := rfl
@[simp] theorem State.withDs_ill (d : DispState) : (s.withDs d).ill = s.ill := rfl
@[simp] theorem State.withDs_cfg (d : DispState) : (s.withDs d).cfg = s.cfg := rfl
@[simp] theorem State.withDs_inputs (d : DispState) : (s.withDs d).inputs = s.inputs := rfl
@[simp] theorem State.withDs_clock (d : DispState) : (s.withDs d).clock = s.clock := rfl
@[simp] theorem State.withDs_input (d : DispState) : (s.withDs d).input = s.input := rfl
@[simp] theorem State.withDs_busy (d : DispState) : (s.withDs d).busy = d.busy := rfl

@[simp] theorem State.withConn_hdr (b : Bool) : (s.withConn b).hdr = s.hdr := rfl
@[simp] theorem State.withConn_brd (b : Bool) : (s.withConn b).brd = s.brd := rfl
@[simp] theorem State.withConn_lck (b : Bool) : (s.withConn b).lck = s.lck := rfl
@[simp] theorem State.withConn_fnc (b : Bool) : (s.withConn b).fnc = s.fnc := rfl
@[simp] theorem State.withConn_cks (b : Bool) : (s.withConn b).cks = s.cks := rfl
@[simp] theorem State.withConn_txf (b : Bool) : (s.withConn b).txf = s.txf := rfl
@[simp] theorem State.withConn_txv (b : Bool) : (s.withConn b).txv = s.txv := rfl
@[simp] theorem State.withConn_rsp (b : Bool) : (s.withConn b).rsp = s.rsp := rfl
@[simp] theorem State.withConn_rspLen (b : Bool) : (s.withConn b).rspLen = s.rspLen := rfl
@[simp] theorem State.withConn_dg (b : Bool) : (s.withConn b).dg = s.dg := rfl
@[simp] theorem State.withConn_dgn (b : Bool) : (s.withConn b).dgn = s.dgn := rfl
@[simp] theorem State.withConn_istat (b : Bool) : (s.withConn b).istat = s.istat := rfl
@[simp] theorem State.withConn_result (b : Bool) : (s.withConn b).result = s.result := rfl
@[simp] theorem State.withConn_ds (b : Bool) : (s.withConn b).ds = s.ds := rfl
@[simp] theorem State.withConn_conn (b : Bool) : (s.withConn b).conn = b := rfl
@[simp] theorem State.withConn_rxcnt (b : Bool) : (s.withConn b).rxcnt = s.rxcnt := rfl
@[simp] theorem State.withConn_tmr (b : Bool) : (s.withConn b).tmr = s.tmr := rfl
@[simp] theorem State.withConn_dct (b : Bool) : (s.withConn b).dct = s.dct := rfl
@[simp] theorem State.withConn_dport (b : Bool) : (s.withConn b).dport = s.dport := rfl
@[simp] theorem State.withConn_hz (b : Bool) : (s.withConn b).hz = s.hz := rfl
@[simp] theorem State.withConn_ill (b : Bool) : (s.withConn b).ill = s.ill := rfl
@[simp] theorem State.withConn_cfg (b : Bool) : (s.withConn b).cfg = s.cfg := rfl
@[simp] theorem State.withConn_inputs (b : Bool) : (s.withConn b).inputs = s.inputs := rfl
@[simp] theorem State.withConn_clock (b : Bool) : (s.withConn b).clock = s.clock := rfl
@[simp] theorem State.withConn_input (b : Bool) : (s.withConn b).input = s.input := rfl
@[simp] theorem State.withConn_busy (b : Bool) : (s.withConn b).busy = s.busy := rfl

@[simp] theorem State.withRxcnt_hdr (n : BitVec 3) : (s.withRxcnt n).hdr = s.hdr := rfl
@[simp] theorem State.withRxcnt_brd (n : BitVec 3) : (s.withRxcnt n).brd = s.brd := rfl
@[simp] theorem State.withRxcnt_lck (n : BitVec 3) : (s.withRxcnt n).lck = s.lck := rfl
@[simp] theorem State.withRxcnt_fnc (n : BitVec 3) : (s.withRxcnt n).fnc = s.fnc := rfl
@[simp] theorem State.withRxcnt_cks (n : BitVec 3) : (s.withRxcnt n).cks = s.cks := rfl
@[simp] theorem State.withRxcnt_txf (n : BitVec 3) : (s.withRxcnt n).txf = s.txf := rfl
@[simp] theorem State.withRxcnt_txv (n : BitVec 3) : (s.withRxcnt n).txv = s.txv := rfl
@[simp] theorem State.withRxcnt_rsp (n : BitVec 3) : (s.withRxcnt n).rsp = s.rsp := rfl
@[simp] theorem State.withRxcnt_rspLen (n : BitVec 3) : (s.withRxcnt n).rspLen = s.rspLen := rfl
@[simp] theorem State.withRxcnt_dg (n : BitVec 3) : (s.withRxcnt n).dg = s.dg := rfl
@[simp] theorem State.withRxcnt_dgn (n : BitVec 3) : (s.withRxcnt n).dgn = s.dgn := rfl
@[simp] theorem State.withRxcnt_istat (n : BitVec 3) : (s.withRxcnt n).istat = s.istat := rfl
@[simp] theorem State.withRxcnt_result (n : BitVec 3) : (s.withRxcnt n).result = s.result := rfl
@[simp] theorem State.withRxcnt_ds (n : BitVec 3) : (s.withRxcnt n).ds = s.ds := rfl
@[simp] theorem State.withRxcnt_conn (n : BitVec 3) : (s.withRxcnt n).conn = s.conn := rfl
@[simp] theorem State.withRxcnt_rxcnt (n : BitVec 3) : (s.withRxcnt n).rxcnt = n := rfl
@[simp] theorem State.withRxcnt_tmr (n : BitVec 3) : (s.withRxcnt n).tmr = s.tmr := rfl
@[simp] theorem State.withRxcnt_dct (n : BitVec 3) : (s.withRxcnt n).dct = s.dct := rfl
@[simp] theorem State.withRxcnt_dport (n : BitVec 3) : (s.withRxcnt n).dport = s.dport := rfl
@[simp] theorem State.withRxcnt_hz (n : BitVec 3) : (s.withRxcnt n).hz = s.hz := rfl
@[simp] theorem State.withRxcnt_ill (n : BitVec 3) : (s.withRxcnt n).ill = s.ill := rfl
@[simp] theorem State.withRxcnt_cfg (n : BitVec 3) : (s.withRxcnt n).cfg = s.cfg := rfl
@[simp] theorem State.withRxcnt_inputs (n : BitVec 3) : (s.withRxcnt n).inputs = s.inputs := rfl
@[simp] theorem State.withRxcnt_clock (n : BitVec 3) : (s.withRxcnt n).clock = s.clock := rfl
@[simp] theorem State.withRxcnt_input (n : BitVec 3) : (s.withRxcnt n).input = s.input := rfl
@[simp] theorem State.withRxcnt_busy (n : BitVec 3) : (s.withRxcnt n).busy = s.busy := rfl

@[simp] theorem State.withTmr_hdr (n : BitVec 6) : (s.withTmr n).hdr = s.hdr := rfl
@[simp] theorem State.withTmr_brd (n : BitVec 6) : (s.withTmr n).brd = s.brd := rfl
@[simp] theorem State.withTmr_lck (n : BitVec 6) : (s.withTmr n).lck = s.lck := rfl
@[simp] theorem State.withTmr_fnc (n : BitVec 6) : (s.withTmr n).fnc = s.fnc := rfl
@[simp] theorem State.withTmr_cks (n : BitVec 6) : (s.withTmr n).cks = s.cks := rfl
@[simp] theorem State.withTmr_txf (n : BitVec 6) : (s.withTmr n).txf = s.txf := rfl
@[simp] theorem State.withTmr_txv (n : BitVec 6) : (s.withTmr n).txv = s.txv := rfl
@[simp] theorem State.withTmr_rsp (n : BitVec 6) : (s.withTmr n).rsp = s.rsp := rfl
@[simp] theorem State.withTmr_rspLen (n : BitVec 6) : (s.withTmr n).rspLen = s.rspLen := rfl
@[simp] theorem State.withTmr_dg (n : BitVec 6) : (s.withTmr n).dg = s.dg := rfl
@[simp] theorem State.withTmr_dgn (n : BitVec 6) : (s.withTmr n).dgn = s.dgn := rfl
@[simp] theorem State.withTmr_istat (n : BitVec 6) : (s.withTmr n).istat = s.istat := rfl
@[simp] theorem State.withTmr_result (n : BitVec 6) : (s.withTmr n).result = s.result := rfl
@[simp] theorem State.withTmr_ds (n : BitVec 6) : (s.withTmr n).ds = s.ds := rfl
@[simp] theorem State.withTmr_conn (n : BitVec 6) : (s.withTmr n).conn = s.conn := rfl
@[simp] theorem State.withTmr_rxcnt (n : BitVec 6) : (s.withTmr n).rxcnt = s.rxcnt := rfl
@[simp] theorem State.withTmr_tmr (n : BitVec 6) : (s.withTmr n).tmr = n := rfl
@[simp] theorem State.withTmr_dct (n : BitVec 6) : (s.withTmr n).dct = s.dct := rfl
@[simp] theorem State.withTmr_dport (n : BitVec 6) : (s.withTmr n).dport = s.dport := rfl
@[simp] theorem State.withTmr_hz (n : BitVec 6) : (s.withTmr n).hz = s.hz := rfl
@[simp] theorem State.withTmr_ill (n : BitVec 6) : (s.withTmr n).ill = s.ill := rfl
@[simp] theorem State.withTmr_cfg (n : BitVec 6) : (s.withTmr n).cfg = s.cfg := rfl
@[simp] theorem State.withTmr_inputs (n : BitVec 6) : (s.withTmr n).inputs = s.inputs := rfl
@[simp] theorem State.withTmr_clock (n : BitVec 6) : (s.withTmr n).clock = s.clock := rfl
@[simp] theorem State.withTmr_input (n : BitVec 6) : (s.withTmr n).input = s.input := rfl
@[simp] theorem State.withTmr_busy (n : BitVec 6) : (s.withTmr n).busy = s.busy := rfl

@[simp] theorem State.withLatches_hdr (ct : BitVec 4) (port : Byte) : (s.withLatches ct port).hdr = s.hdr := rfl
@[simp] theorem State.withLatches_brd (ct : BitVec 4) (port : Byte) : (s.withLatches ct port).brd = s.brd := rfl
@[simp] theorem State.withLatches_lck (ct : BitVec 4) (port : Byte) : (s.withLatches ct port).lck = s.lck := rfl
@[simp] theorem State.withLatches_fnc (ct : BitVec 4) (port : Byte) : (s.withLatches ct port).fnc = s.fnc := rfl
@[simp] theorem State.withLatches_cks (ct : BitVec 4) (port : Byte) : (s.withLatches ct port).cks = s.cks := rfl
@[simp] theorem State.withLatches_txf (ct : BitVec 4) (port : Byte) : (s.withLatches ct port).txf = s.txf := rfl
@[simp] theorem State.withLatches_txv (ct : BitVec 4) (port : Byte) : (s.withLatches ct port).txv = s.txv := rfl
@[simp] theorem State.withLatches_rsp (ct : BitVec 4) (port : Byte) : (s.withLatches ct port).rsp = s.rsp := rfl
@[simp] theorem State.withLatches_rspLen (ct : BitVec 4) (port : Byte) : (s.withLatches ct port).rspLen = s.rspLen := rfl
@[simp] theorem State.withLatches_dg (ct : BitVec 4) (port : Byte) : (s.withLatches ct port).dg = s.dg := rfl
@[simp] theorem State.withLatches_dgn (ct : BitVec 4) (port : Byte) : (s.withLatches ct port).dgn = s.dgn := rfl
@[simp] theorem State.withLatches_istat (ct : BitVec 4) (port : Byte) : (s.withLatches ct port).istat = s.istat := rfl
@[simp] theorem State.withLatches_result (ct : BitVec 4) (port : Byte) : (s.withLatches ct port).result = s.result := rfl
@[simp] theorem State.withLatches_ds (ct : BitVec 4) (port : Byte) : (s.withLatches ct port).ds = s.ds := rfl
@[simp] theorem State.withLatches_conn (ct : BitVec 4) (port : Byte) : (s.withLatches ct port).conn = s.conn := rfl
@[simp] theorem State.withLatches_rxcnt (ct : BitVec 4) (port : Byte) : (s.withLatches ct port).rxcnt = s.rxcnt := rfl
@[simp] theorem State.withLatches_tmr (ct : BitVec 4) (port : Byte) : (s.withLatches ct port).tmr = s.tmr := rfl
@[simp] theorem State.withLatches_dct (ct : BitVec 4) (port : Byte) : (s.withLatches ct port).dct = ct := rfl
@[simp] theorem State.withLatches_dport (ct : BitVec 4) (port : Byte) : (s.withLatches ct port).dport = port := rfl
@[simp] theorem State.withLatches_hz (ct : BitVec 4) (port : Byte) : (s.withLatches ct port).hz = s.hz := rfl
@[simp] theorem State.withLatches_ill (ct : BitVec 4) (port : Byte) : (s.withLatches ct port).ill = s.ill := rfl
@[simp] theorem State.withLatches_cfg (ct : BitVec 4) (port : Byte) : (s.withLatches ct port).cfg = s.cfg := rfl
@[simp] theorem State.withLatches_inputs (ct : BitVec 4) (port : Byte) : (s.withLatches ct port).inputs = s.inputs := rfl
@[simp] theorem State.withLatches_clock (ct : BitVec 4) (port : Byte) : (s.withLatches ct port).clock = s.clock := rfl
@[simp] theorem State.withLatches_input (ct : BitVec 4) (port : Byte) : (s.withLatches ct port).input = s.input := rfl
@[simp] theorem State.withLatches_busy (ct : BitVec 4) (port : Byte) : (s.withLatches ct port).busy = s.busy := rfl

@[simp] theorem State.withHz_hdr : (s.withHz).hdr = s.hdr := rfl
@[simp] theorem State.withHz_brd : (s.withHz).brd = s.brd := rfl
@[simp] theorem State.withHz_lck : (s.withHz).lck = s.lck := rfl
@[simp] theorem State.withHz_fnc : (s.withHz).fnc = s.fnc := rfl
@[simp] theorem State.withHz_cks : (s.withHz).cks = s.cks := rfl
@[simp] theorem State.withHz_txf : (s.withHz).txf = s.txf := rfl
@[simp] theorem State.withHz_txv : (s.withHz).txv = s.txv := rfl
@[simp] theorem State.withHz_rsp : (s.withHz).rsp = s.rsp := rfl
@[simp] theorem State.withHz_rspLen : (s.withHz).rspLen = s.rspLen := rfl
@[simp] theorem State.withHz_dg : (s.withHz).dg = s.dg := rfl
@[simp] theorem State.withHz_dgn : (s.withHz).dgn = s.dgn := rfl
@[simp] theorem State.withHz_istat : (s.withHz).istat = s.istat := rfl
@[simp] theorem State.withHz_result : (s.withHz).result = s.result := rfl
@[simp] theorem State.withHz_ds : (s.withHz).ds = s.ds := rfl
@[simp] theorem State.withHz_conn : (s.withHz).conn = s.conn := rfl
@[simp] theorem State.withHz_rxcnt : (s.withHz).rxcnt = s.rxcnt := rfl
@[simp] theorem State.withHz_tmr : (s.withHz).tmr = s.tmr := rfl
@[simp] theorem State.withHz_dct : (s.withHz).dct = s.dct := rfl
@[simp] theorem State.withHz_dport : (s.withHz).dport = s.dport := rfl
@[simp] theorem State.withHz_hz : (s.withHz).hz = true := rfl
@[simp] theorem State.withHz_ill : (s.withHz).ill = s.ill := rfl
@[simp] theorem State.withHz_cfg : (s.withHz).cfg = s.cfg := rfl
@[simp] theorem State.withHz_inputs : (s.withHz).inputs = s.inputs := rfl
@[simp] theorem State.withHz_clock : (s.withHz).clock = s.clock := rfl
@[simp] theorem State.withHz_input : (s.withHz).input = s.input := rfl
@[simp] theorem State.withHz_busy : (s.withHz).busy = s.busy := rfl

@[simp] theorem State.withIll_hdr : (s.withIll).hdr = s.hdr := rfl
@[simp] theorem State.withIll_brd : (s.withIll).brd = s.brd := rfl
@[simp] theorem State.withIll_lck : (s.withIll).lck = s.lck := rfl
@[simp] theorem State.withIll_fnc : (s.withIll).fnc = s.fnc := rfl
@[simp] theorem State.withIll_cks : (s.withIll).cks = s.cks := rfl
@[simp] theorem State.withIll_txf : (s.withIll).txf = s.txf := rfl
@[simp] theorem State.withIll_txv : (s.withIll).txv = s.txv := rfl
@[simp] theorem State.withIll_rsp : (s.withIll).rsp = s.rsp := rfl
@[simp] theorem State.withIll_rspLen : (s.withIll).rspLen = s.rspLen := rfl
@[simp] theorem State.withIll_dg : (s.withIll).dg = s.dg := rfl
@[simp] theorem State.withIll_dgn : (s.withIll).dgn = s.dgn := rfl
@[simp] theorem State.withIll_istat : (s.withIll).istat = s.istat := rfl
@[simp] theorem State.withIll_result : (s.withIll).result = s.result := rfl
@[simp] theorem State.withIll_ds : (s.withIll).ds = s.ds := rfl
@[simp] theorem State.withIll_conn : (s.withIll).conn = s.conn := rfl
@[simp] theorem State.withIll_rxcnt : (s.withIll).rxcnt = s.rxcnt := rfl
@[simp] theorem State.withIll_tmr : (s.withIll).tmr = s.tmr := rfl
@[simp] theorem State.withIll_dct : (s.withIll).dct = s.dct := rfl
@[simp] theorem State.withIll_dport : (s.withIll).dport = s.dport := rfl
@[simp] theorem State.withIll_hz : (s.withIll).hz = s.hz := rfl
@[simp] theorem State.withIll_ill : (s.withIll).ill = true := rfl
@[simp] theorem State.withIll_cfg : (s.withIll).cfg = s.cfg := rfl
@[simp] theorem State.withIll_inputs : (s.withIll).inputs = s.inputs := rfl
@[simp] theorem State.withIll_clock : (s.withIll).clock = s.clock := rfl
@[simp] theorem State.withIll_input : (s.withIll).input = s.input := rfl
@[simp] theorem State.withIll_busy : (s.withIll).busy = s.busy := rfl

@[simp] theorem State.advance_hdr : (s.advance).hdr = s.hdr := rfl
@[simp] theorem State.advance_brd : (s.advance).brd = s.brd := rfl
@[simp] theorem State.advance_lck : (s.advance).lck = s.lck := rfl
@[simp] theorem State.advance_fnc : (s.advance).fnc = s.fnc := rfl
@[simp] theorem State.advance_cks : (s.advance).cks = s.cks := rfl
@[simp] theorem State.advance_txf : (s.advance).txf = s.txf := rfl
@[simp] theorem State.advance_txv : (s.advance).txv = s.txv := rfl
@[simp] theorem State.advance_rsp : (s.advance).rsp = s.rsp := rfl
@[simp] theorem State.advance_rspLen : (s.advance).rspLen = s.rspLen := rfl
@[simp] theorem State.advance_dg : (s.advance).dg = s.dg := rfl
@[simp] theorem State.advance_dgn : (s.advance).dgn = s.dgn := rfl
@[simp] theorem State.advance_istat : (s.advance).istat = s.istat := rfl
@[simp] theorem State.advance_result : (s.advance).result = s.result := rfl
@[simp] theorem State.advance_ds : (s.advance).ds = s.ds := rfl
@[simp] theorem State.advance_conn : (s.advance).conn = s.conn := rfl
@[simp] theorem State.advance_rxcnt : (s.advance).rxcnt = s.rxcnt := rfl
@[simp] theorem State.advance_tmr : (s.advance).tmr = s.tmr := rfl
@[simp] theorem State.advance_dct : (s.advance).dct = s.dct := rfl
@[simp] theorem State.advance_dport : (s.advance).dport = s.dport := rfl
@[simp] theorem State.advance_hz : (s.advance).hz = s.hz := rfl
@[simp] theorem State.advance_ill : (s.advance).ill = s.ill := rfl
@[simp] theorem State.advance_cfg : (s.advance).cfg = s.cfg := rfl
@[simp] theorem State.advance_inputs : (s.advance).inputs = s.inputs.tail := rfl
@[simp] theorem State.advance_clock : (s.advance).clock = s.clock + 1 := rfl
@[simp] theorem State.advance_busy : (s.advance).busy = s.busy := rfl

/-- The record sampled is the first one placed. -/
@[simp] theorem State.input_cons (i : Input) (l : List Input) : State.input { s with inputs := i :: l } = i := rfl

/-- Where no record is placed the sampled one is free. -/
theorem State.input_nil (h : s.inputs = []) : s.input = Config.freeInput s.clock := by
  simp [State.input, h]

theorem State.input_of_inputs (i : Input) (l : List Input) (h : s.inputs = i :: l) : s.input = i := by
  simp [State.input, h]

@[simp] theorem State.afterRst_cfg : s.afterRst.cfg = s.cfg := rfl
@[simp] theorem State.afterRst_inputs : s.afterRst.inputs = s.inputs := rfl
@[simp] theorem State.afterRst_clock : s.afterRst.clock = s.clock := rfl
@[simp] theorem State.afterRst_ds : s.afterRst.ds = .idle := rfl
@[simp] theorem State.afterRst_input : s.afterRst.input = s.input := rfl

end Sys2Proof.Machine
end

