-- ==== Sys2Proof/Laws/Ops.lean ====
section
/-! SUPPORT. What each shared operation can do, said once: outcomes in sequence, reporting a result, host writes, the register
space. -/

namespace Sys2Proof.Machine

@[simp] theorem andThen_next (s : State) (f : State → Out) : andThen (.next s) f = f s := rfl
@[simp] theorem andThen_fault (r : Fault) (f : State → Out) : andThen (.fault r) f = .fault r := rfl
@[simp] theorem andThen_refused (r : Refusal) (f : State → Out) : andThen (.refused r) f = .refused r := rfl

/-- A sequence answers a next state only through a next state of its first part. -/
theorem andThen_eq_next {o : Out} {f : State → Out} {t : State} :
    andThen o f = .next t ↔ ∃ s, o = .next s ∧ f s = .next t := by
  cases o <;> simp [andThen]

@[simp] theorem succeed_eq (op : BitVec 4) (s : State) :
    succeed op s = s.withResult { tag := .success, err := .none, lastOp := op } := rfl

@[simp] theorem raiseError_eq (k : ErrorKind) (op : BitVec 4) (s : State) :
    raiseError k op s = s.withResult { tag := .failure, err := k, lastOp := op } := rfl

theorem whenResting_of_busy {s : State} (h : s.busy = true) (effect : State → State) :
    whenResting s effect = s.withHz := by simp [whenResting, h]

theorem whenResting_of_resting {s : State} (h : s.busy = false) (effect : State → State) :
    whenResting s effect = effect s := by simp [whenResting, h]

/-- A host write is refused with `HZ`, or has its effect. -/
theorem whenResting_cases (s : State) (effect : State → State) :
    (s.busy = true ∧ whenResting s effect = s.withHz) ∨ (s.busy = false ∧ whenResting s effect = effect s) := by
  cases h : s.busy
  · exact .inr ⟨rfl, whenResting_of_resting h effect⟩
  · exact .inl ⟨rfl, whenResting_of_busy h effect⟩

/-- At rest the dispatcher state is IDLE or CLOSED. -/
theorem State.busy_eq_false {s : State} : s.busy = false ↔ s.ds = .idle ∨ s.ds = .closed := by
  unfold State.busy
  cases s.ds <;> simp [DispState.busy]

/-- All a register write at rest can do: one operand register, the response buffer or its length, or `ILL`. -/
theorem storeRegister_cases (a : RegNum) (d : HostWord) (s : State) :
    storeRegister a d s = s.withHdr d ∨ storeRegister a d s = s.withBrd d ∨ storeRegister a d s = s.withLck d ∨
    storeRegister a d s = s.withFnc d ∨ (∃ r, storeRegister a d s = s.withRsp r) ∨
    storeRegister a d s = s.withRspLen (d.extractLsb' 0 4) ∨ storeRegister a d s = s.withIll := by
  unfold storeRegister
  split
  case h_1 => exact .inl rfl
  case h_2 => exact .inr (.inl rfl)
  case h_3 => exact .inr (.inr (.inl rfl))
  case h_4 => exact .inr (.inr (.inr (.inl rfl)))
  case h_12 => exact .inr (.inr (.inr (.inr (.inr (.inl rfl)))))
  case h_13 => exact .inr (.inr (.inr (.inr (.inr (.inr rfl)))))
  all_goals exact .inr (.inr (.inr (.inr (.inl ⟨_, rfl⟩))))

/-- `OP` reads 0 (10_state R38). -/
theorem hostRead_op (s : State) : hostRead s opRegister = 0 := rfl

end Sys2Proof.Machine
end

