-- ==== Sys2Proof/Laws/Dispatcher.lean ====
section
/-! SUPPORT. What each transition of the dispatcher can do, said once. -/

namespace Sys2Proof.Machine

@[simp] theorem sendCommon_hdr (s : State) : (sendCommon s).hdr = s.hdr := rfl
@[simp] theorem sendCommon_brd (s : State) : (sendCommon s).brd = s.brd := rfl
@[simp] theorem sendCommon_lck (s : State) : (sendCommon s).lck = s.lck := rfl
@[simp] theorem sendCommon_fnc (s : State) : (sendCommon s).fnc = s.fnc := rfl
@[simp] theorem sendCommon_cks (s : State) : (sendCommon s).cks = s.cks := rfl
@[simp] theorem sendCommon_txf (s : State) : (sendCommon s).txf = s.txf := rfl
@[simp] theorem sendCommon_txv (s : State) : (sendCommon s).txv = s.txv := rfl
@[simp] theorem sendCommon_rsp (s : State) : (sendCommon s).rsp = zeroRsp := rfl
@[simp] theorem sendCommon_rspLen (s : State) : (sendCommon s).rspLen = 0#4 := rfl
@[simp] theorem sendCommon_dg (s : State) : (sendCommon s).dg = zeroGroups := rfl
@[simp] theorem sendCommon_dgn (s : State) : (sendCommon s).dgn = 0#3 := rfl
@[simp] theorem sendCommon_istat (s : State) : (sendCommon s).istat = .none := rfl
@[simp] theorem sendCommon_result (s : State) : (sendCommon s).result = { s.result with lastOp := 5#4 } := rfl
@[simp] theorem sendCommon_ds (s : State) : (sendCommon s).ds = s.ds := rfl
@[simp] theorem sendCommon_conn (s : State) : (sendCommon s).conn = s.conn := rfl
@[simp] theorem sendCommon_rxcnt (s : State) : (sendCommon s).rxcnt = 0#3 := rfl
@[simp] theorem sendCommon_tmr (s : State) : (sendCommon s).tmr = s.tmr := rfl
@[simp] theorem sendCommon_dct (s : State) : (sendCommon s).dct = s.dct := rfl
@[simp] theorem sendCommon_dport (s : State) : (sendCommon s).dport = s.dport := rfl
@[simp] theorem sendCommon_hz (s : State) : (sendCommon s).hz = s.hz := rfl
@[simp] theorem sendCommon_ill (s : State) : (sendCommon s).ill = s.ill := rfl
@[simp] theorem sendCommon_cfg (s : State) : (sendCommon s).cfg = s.cfg := rfl
@[simp] theorem sendCommon_inputs (s : State) : (sendCommon s).inputs = s.inputs := rfl
@[simp] theorem sendCommon_clock (s : State) : (sendCommon s).clock = s.clock := rfl

@[simp] theorem rejectSend_hdr (k : ErrorKind) (s : State) : (rejectSend k s).hdr = s.hdr := rfl
@[simp] theorem rejectSend_brd (k : ErrorKind) (s : State) : (rejectSend k s).brd = s.brd := rfl
@[simp] theorem rejectSend_lck (k : ErrorKind) (s : State) : (rejectSend k s).lck = s.lck := rfl
@[simp] theorem rejectSend_fnc (k : ErrorKind) (s : State) : (rejectSend k s).fnc = s.fnc := rfl
@[simp] theorem rejectSend_cks (k : ErrorKind) (s : State) : (rejectSend k s).cks = s.cks := rfl
@[simp] theorem rejectSend_txf (k : ErrorKind) (s : State) : (rejectSend k s).txf = s.txf := rfl
@[simp] theorem rejectSend_txv (k : ErrorKind) (s : State) : (rejectSend k s).txv = s.txv := rfl
@[simp] theorem rejectSend_rsp (k : ErrorKind) (s : State) : (rejectSend k s).rsp = s.rsp := rfl
@[simp] theorem rejectSend_rspLen (k : ErrorKind) (s : State) : (rejectSend k s).rspLen = s.rspLen := rfl
@[simp] theorem rejectSend_dg (k : ErrorKind) (s : State) : (rejectSend k s).dg = s.dg := rfl
@[simp] theorem rejectSend_dgn (k : ErrorKind) (s : State) : (rejectSend k s).dgn = s.dgn := rfl
@[simp] theorem rejectSend_istat (k : ErrorKind) (s : State) : (rejectSend k s).istat = s.istat := rfl
@[simp] theorem rejectSend_result (k : ErrorKind) (s : State) : (rejectSend k s).result = { tag := .failure, err := k, lastOp := 5#4 } := rfl
@[simp] theorem rejectSend_ds (k : ErrorKind) (s : State) : (rejectSend k s).ds = .closed := rfl
@[simp] theorem rejectSend_conn (k : ErrorKind) (s : State) : (rejectSend k s).conn = s.conn := rfl
@[simp] theorem rejectSend_rxcnt (k : ErrorKind) (s : State) : (rejectSend k s).rxcnt = s.rxcnt := rfl
@[simp] theorem rejectSend_tmr (k : ErrorKind) (s : State) : (rejectSend k s).tmr = s.tmr := rfl
@[simp] theorem rejectSend_dct (k : ErrorKind) (s : State) : (rejectSend k s).dct = s.dct := rfl
@[simp] theorem rejectSend_dport (k : ErrorKind) (s : State) : (rejectSend k s).dport = s.dport := rfl
@[simp] theorem rejectSend_hz (k : ErrorKind) (s : State) : (rejectSend k s).hz = s.hz := rfl
@[simp] theorem rejectSend_ill (k : ErrorKind) (s : State) : (rejectSend k s).ill = s.ill := rfl
@[simp] theorem rejectSend_cfg (k : ErrorKind) (s : State) : (rejectSend k s).cfg = s.cfg := rfl
@[simp] theorem rejectSend_inputs (k : ErrorKind) (s : State) : (rejectSend k s).inputs = s.inputs := rfl
@[simp] theorem rejectSend_clock (k : ErrorKind) (s : State) : (rejectSend k s).clock = s.clock := rfl

@[simp] theorem acceptSend_hdr (p : Byte) (c : BitVec 4) (s : State) : (acceptSend p c s).hdr = s.hdr := rfl
@[simp] theorem acceptSend_brd (p : Byte) (c : BitVec 4) (s : State) : (acceptSend p c s).brd = s.brd := rfl
@[simp] theorem acceptSend_lck (p : Byte) (c : BitVec 4) (s : State) : (acceptSend p c s).lck = s.lck := rfl
@[simp] theorem acceptSend_fnc (p : Byte) (c : BitVec 4) (s : State) : (acceptSend p c s).fnc = s.fnc := rfl
@[simp] theorem acceptSend_cks (p : Byte) (c : BitVec 4) (s : State) : (acceptSend p c s).cks = s.cks := rfl
@[simp] theorem acceptSend_txf (p : Byte) (c : BitVec 4) (s : State) : (acceptSend p c s).txf = s.txf := rfl
@[simp] theorem acceptSend_txv (p : Byte) (c : BitVec 4) (s : State) : (acceptSend p c s).txv = s.txv := rfl
@[simp] theorem acceptSend_rsp (p : Byte) (c : BitVec 4) (s : State) : (acceptSend p c s).rsp = s.rsp := rfl
@[simp] theorem acceptSend_rspLen (p : Byte) (c : BitVec 4) (s : State) : (acceptSend p c s).rspLen = s.rspLen := rfl
@[simp] theorem acceptSend_dg (p : Byte) (c : BitVec 4) (s : State) : (acceptSend p c s).dg = s.dg := rfl
@[simp] theorem acceptSend_dgn (p : Byte) (c : BitVec 4) (s : State) : (acceptSend p c s).dgn = s.dgn := rfl
@[simp] theorem acceptSend_istat (p : Byte) (c : BitVec 4) (s : State) : (acceptSend p c s).istat = s.istat := rfl
@[simp] theorem acceptSend_result (p : Byte) (c : BitVec 4) (s : State) : (acceptSend p c s).result = { tag := .none, err := .none, lastOp := 5#4 } := rfl
@[simp] theorem acceptSend_ds (p : Byte) (c : BitVec 4) (s : State) : (acceptSend p c s).ds = .opening := rfl
@[simp] theorem acceptSend_conn (p : Byte) (c : BitVec 4) (s : State) : (acceptSend p c s).conn = s.conn := rfl
@[simp] theorem acceptSend_rxcnt (p : Byte) (c : BitVec 4) (s : State) : (acceptSend p c s).rxcnt = s.rxcnt := rfl
@[simp] theorem acceptSend_tmr (p : Byte) (c : BitVec 4) (s : State) : (acceptSend p c s).tmr = s.tmr := rfl
@[simp] theorem acceptSend_dct (p : Byte) (c : BitVec 4) (s : State) : (acceptSend p c s).dct = c := rfl
@[simp] theorem acceptSend_dport (p : Byte) (c : BitVec 4) (s : State) : (acceptSend p c s).dport = p := rfl
@[simp] theorem acceptSend_hz (p : Byte) (c : BitVec 4) (s : State) : (acceptSend p c s).hz = s.hz := rfl
@[simp] theorem acceptSend_ill (p : Byte) (c : BitVec 4) (s : State) : (acceptSend p c s).ill = s.ill := rfl
@[simp] theorem acceptSend_cfg (p : Byte) (c : BitVec 4) (s : State) : (acceptSend p c s).cfg = s.cfg := rfl
@[simp] theorem acceptSend_inputs (p : Byte) (c : BitVec 4) (s : State) : (acceptSend p c s).inputs = s.inputs := rfl
@[simp] theorem acceptSend_clock (p : Byte) (c : BitVec 4) (s : State) : (acceptSend p c s).clock = s.clock := rfl

@[simp] theorem enterFailure_hdr (d : DispState) (k : ErrorKind) (s : State) : (enterFailure d k s).hdr = s.hdr := rfl
@[simp] theorem enterFailure_brd (d : DispState) (k : ErrorKind) (s : State) : (enterFailure d k s).brd = s.brd := rfl
@[simp] theorem enterFailure_lck (d : DispState) (k : ErrorKind) (s : State) : (enterFailure d k s).lck = s.lck := rfl
@[simp] theorem enterFailure_fnc (d : DispState) (k : ErrorKind) (s : State) : (enterFailure d k s).fnc = s.fnc := rfl
@[simp] theorem enterFailure_cks (d : DispState) (k : ErrorKind) (s : State) : (enterFailure d k s).cks = s.cks := rfl
@[simp] theorem enterFailure_txf (d : DispState) (k : ErrorKind) (s : State) : (enterFailure d k s).txf = s.txf := rfl
@[simp] theorem enterFailure_txv (d : DispState) (k : ErrorKind) (s : State) : (enterFailure d k s).txv = s.txv := rfl
@[simp] theorem enterFailure_rsp (d : DispState) (k : ErrorKind) (s : State) : (enterFailure d k s).rsp = zeroRsp := rfl
@[simp] theorem enterFailure_rspLen (d : DispState) (k : ErrorKind) (s : State) : (enterFailure d k s).rspLen = 0#4 := rfl
@[simp] theorem enterFailure_dg (d : DispState) (k : ErrorKind) (s : State) : (enterFailure d k s).dg = s.dg := rfl
@[simp] theorem enterFailure_dgn (d : DispState) (k : ErrorKind) (s : State) : (enterFailure d k s).dgn = s.dgn := rfl
@[simp] theorem enterFailure_istat (d : DispState) (k : ErrorKind) (s : State) : (enterFailure d k s).istat = s.istat := rfl
@[simp] theorem enterFailure_result (d : DispState) (k : ErrorKind) (s : State) : (enterFailure d k s).result = { tag := .failure, err := k, lastOp := 5#4 } := rfl
@[simp] theorem enterFailure_ds (d : DispState) (k : ErrorKind) (s : State) : (enterFailure d k s).ds = d := rfl
@[simp] theorem enterFailure_conn (d : DispState) (k : ErrorKind) (s : State) : (enterFailure d k s).conn = s.conn := rfl
@[simp] theorem enterFailure_rxcnt (d : DispState) (k : ErrorKind) (s : State) : (enterFailure d k s).rxcnt = s.rxcnt := rfl
@[simp] theorem enterFailure_tmr (d : DispState) (k : ErrorKind) (s : State) : (enterFailure d k s).tmr = s.tmr := rfl
@[simp] theorem enterFailure_dct (d : DispState) (k : ErrorKind) (s : State) : (enterFailure d k s).dct = s.dct := rfl
@[simp] theorem enterFailure_dport (d : DispState) (k : ErrorKind) (s : State) : (enterFailure d k s).dport = s.dport := rfl
@[simp] theorem enterFailure_hz (d : DispState) (k : ErrorKind) (s : State) : (enterFailure d k s).hz = s.hz := rfl
@[simp] theorem enterFailure_ill (d : DispState) (k : ErrorKind) (s : State) : (enterFailure d k s).ill = s.ill := rfl
@[simp] theorem enterFailure_cfg (d : DispState) (k : ErrorKind) (s : State) : (enterFailure d k s).cfg = s.cfg := rfl
@[simp] theorem enterFailure_inputs (d : DispState) (k : ErrorKind) (s : State) : (enterFailure d k s).inputs = s.inputs := rfl
@[simp] theorem enterFailure_clock (d : DispState) (k : ErrorKind) (s : State) : (enterFailure d k s).clock = s.clock := rfl

@[simp] theorem enterSuccess_hdr (s : State) : (enterSuccess s).hdr = s.hdr := rfl
@[simp] theorem enterSuccess_brd (s : State) : (enterSuccess s).brd = s.brd := rfl
@[simp] theorem enterSuccess_lck (s : State) : (enterSuccess s).lck = s.lck := rfl
@[simp] theorem enterSuccess_fnc (s : State) : (enterSuccess s).fnc = s.fnc := rfl
@[simp] theorem enterSuccess_cks (s : State) : (enterSuccess s).cks = s.cks := rfl
@[simp] theorem enterSuccess_txf (s : State) : (enterSuccess s).txf = s.txf := rfl
@[simp] theorem enterSuccess_txv (s : State) : (enterSuccess s).txv = s.txv := rfl
@[simp] theorem enterSuccess_rsp (s : State) : (enterSuccess s).rsp = s.rsp := rfl
@[simp] theorem enterSuccess_rspLen (s : State) : (enterSuccess s).rspLen = BitVec.ofNat 4 (explen s.dct) := rfl
@[simp] theorem enterSuccess_dg (s : State) : (enterSuccess s).dg = s.dg := rfl
@[simp] theorem enterSuccess_dgn (s : State) : (enterSuccess s).dgn = s.dgn := rfl
@[simp] theorem enterSuccess_istat (s : State) : (enterSuccess s).istat = s.istat := rfl
@[simp] theorem enterSuccess_result (s : State) : (enterSuccess s).result = { tag := .success, err := .none, lastOp := 5#4 } := rfl
@[simp] theorem enterSuccess_ds (s : State) : (enterSuccess s).ds = .success := rfl
@[simp] theorem enterSuccess_conn (s : State) : (enterSuccess s).conn = s.conn := rfl
@[simp] theorem enterSuccess_rxcnt (s : State) : (enterSuccess s).rxcnt = s.rxcnt := rfl
@[simp] theorem enterSuccess_tmr (s : State) : (enterSuccess s).tmr = s.tmr := rfl
@[simp] theorem enterSuccess_dct (s : State) : (enterSuccess s).dct = s.dct := rfl
@[simp] theorem enterSuccess_dport (s : State) : (enterSuccess s).dport = s.dport := rfl
@[simp] theorem enterSuccess_hz (s : State) : (enterSuccess s).hz = s.hz := rfl
@[simp] theorem enterSuccess_ill (s : State) : (enterSuccess s).ill = s.ill := rfl
@[simp] theorem enterSuccess_cfg (s : State) : (enterSuccess s).cfg = s.cfg := rfl
@[simp] theorem enterSuccess_inputs (s : State) : (enterSuccess s).inputs = s.inputs := rfl
@[simp] theorem enterSuccess_clock (s : State) : (enterSuccess s).clock = s.clock := rfl

@[simp] theorem sendCommon_busy (s : State) : (sendCommon s).busy = s.busy := rfl
@[simp] theorem rejectSend_busy (k : ErrorKind) (s : State) : (rejectSend k s).busy = false := rfl
@[simp] theorem acceptSend_busy (p : Byte) (c : BitVec 4) (s : State) : (acceptSend p c s).busy = true := rfl

theorem sendEffect_unrecognized {port : Byte} {ct : BitVec 4} {s : State} (h : 3 < ct.toNat) :
    sendEffect port ct s = rejectSend .unrecognizedCommandType (sendCommon s) := by
  simp [sendEffect, h]

theorem sendEffect_noFrame {port : Byte} {ct : BitVec 4} {s : State} (h : ct.toNat ≤ 3) (hv : s.txv = false) :
    sendEffect port ct s = rejectSend .malformedInput (sendCommon s) := by
  simp [sendEffect, Nat.not_lt.mpr h, hv]

theorem sendEffect_accepted {port : Byte} {ct : BitVec 4} {s : State} (h : ct.toNat ≤ 3) (hv : s.txv = true) :
    sendEffect port ct s = acceptSend port ct (sendCommon s) := by
  simp [sendEffect, Nat.not_lt.mpr h, hv]

theorem openingStep_cases (s : State) :
    (s.input.openRsp = .none ∧ openingStep s = s) ∨
    (s.input.openRsp = .ok ∧ openingStep s = (s.withConn true).withDs .writing) ∨
    (s.input.openRsp = .fail ∧ openingStep s = enterTfault s) := by
  unfold openingStep
  cases s.input.openRsp <;> simp

theorem writingStep_cases (s : State) :
    (s.input.txRsp = .none ∧ writingStep s = s) ∨
    (s.input.txRsp = .done ∧ writingStep s = ((s.withTmr (tq s.dct)).withRxcnt 0#3).withDs .reading) ∨
    (s.input.txRsp = .fail ∧ writingStep s = enterTfault s) := by
  unfold writingStep
  cases s.input.txRsp <;> simp

/-- A byte is stored and counted, with SUCCESS where it completes the reply; or `RXCNT` is past the buffer. -/
theorem receiveByte_cases (b : Byte) (s : State) :
    (∃ h : s.rxcnt.toNat < 7, s.rxcnt.toNat + 1 = explen s.dct ∧
      receiveByte b s = .next (enterSuccess (storeByteAt b s s.rxcnt.toNat h))) ∨
    (∃ h : s.rxcnt.toNat < 7, s.rxcnt.toNat + 1 ≠ explen s.dct ∧
      receiveByte b s = .next (storeByteAt b s s.rxcnt.toNat h)) ∨
    (s.rxcnt.toNat = 7 ∧ receiveByte b s = .fault .rspIndexOutOfRange) := by
  by_cases h : s.rxcnt.toNat < 7
  · by_cases he : s.rxcnt.toNat + 1 = explen s.dct
    · exact .inl ⟨h, he, by simp [receiveByte, h, he]⟩
    · exact .inr (.inl ⟨h, he, by simp [receiveByte, h, he]⟩)
  · exact .inr (.inr ⟨by omega, by simp [receiveByte, h]⟩)

/-- A step without a tick changes nothing; a tick counts down, with TIMEOUT at zero; or the timer stood at 0. -/
theorem tickStep_cases (s : State) :
    (s.input.tick = false ∧ tickStep s = .next s) ∨
    (s.input.tick = true ∧ s.tmr ≠ 0#6 ∧ s.tmr - 1#6 ≠ 0#6 ∧ tickStep s = .next (s.withTmr (s.tmr - 1#6))) ∨
    (s.input.tick = true ∧ s.tmr ≠ 0#6 ∧ s.tmr - 1#6 = 0#6 ∧ tickStep s = .next (enterTimeout (s.withTmr (s.tmr - 1#6)))) ∨
    (s.input.tick = true ∧ s.tmr = 0#6 ∧ tickStep s = .fault .timerUnderflow) := by
  unfold tickStep
  cases ht : s.input.tick
  · simp
  · by_cases h0 : s.tmr = 0#6
    · simp [h0]
    · by_cases h1 : s.tmr - 1#6 = 0#6 <;> simp [h0, h1]

/-- A command frame's meaning answers a next state exactly where the core presents that frame, and then it is the write phase. -/
theorem transmitFrame_eq_next {f : Frame} {s t : State} :
    transmitFrame f s = .next t ↔ s.ds = .writing ∧ s.txf = f ∧ t = writingStep s := by
  unfold transmitFrame
  split
  · next h => simp [h, eq_comm]
  · next h => simp only [reduceCtorEq, false_iff]; exact fun ⟨a, b, _⟩ => h ⟨a, b⟩

theorem transmitFrame_of_presented {s : State} (h : s.ds = .writing) : transmitFrame s.txf s = .next (writingStep s) := by
  simp [transmitFrame, h]

end Sys2Proof.Machine
end

