-- ==== Sys2Proof/Laws/Cycle.lean ====
section
/-! SUPPORT. What a step can do, said once: reset, a host access at rest, a dispatcher transition while busy. -/

namespace Sys2Proof.Machine

/-- The write phase is the same whichever frame the buffer holds: decoding it picks a meaning, not an effect. -/
theorem writePhase_eq {s : State} (h : s.ds = .writing) : writePhase s = .next (writingStep s) := by
  unfold writePhase
  split
  · next i hi =>
    have he := encode_of_decodeFrame hi
    cases i <;> simp only [encode, Encoded.frame.injEq, reduceCtorEq] at he <;>
      simp only [exec, execUnlockAll, execUnlockIndividual, execQueryIndividual, execQueryAll, he] <;>
      exact transmitFrame_of_presented h
  · rfl

theorem step_of_rst {s : State} (h : s.input.rst = true) : step s = .next s.afterRst.advance := by
  simp [step, cycle, h]

theorem step_of_not_rst {s : State} (h : s.input.rst = false) :
    step s = andThen (activePhase s) fun t => .next t.advance := by
  simp [step, cycle, h]

/-- A step that begins at rest is the host's access alone. -/
theorem step_of_resting {s : State} (h : s.input.rst = false) (hb : s.busy = false) :
    step s = andThen (hostPhase s) fun t => .next t.advance := by
  rw [step_of_not_rst h, activePhase, hb]
  cases hostPhase s <;> rfl

/-- A host write while busy sets `HZ` and nothing else. -/
theorem hostPhase_write_of_busy {s : State} (hb : s.busy = true) {a : RegNum} {d : HostWord}
    (hw : s.input.host = .write a d) : hostPhase s = .next s.withHz := by
  unfold hostPhase
  rw [hw]
  dsimp only
  split
  · unfold startOperation
    split
    · next i hi =>
      rcases decodeOp_cases hi with ⟨_, rfl⟩ | ⟨_, rfl⟩ | ⟨_, rfl⟩ | ⟨_, rfl⟩ | ⟨_, rfl⟩ | ⟨_, rfl⟩ | ⟨_, rfl⟩ <;>
        simp [exec, execCksum, execBuild, execTplua, execTplqa, execSend, execDecode, execIstat, whenResting_of_busy hb]
    · simp [reservedOp, whenResting_of_busy hb]
  · simp [writeRegister, whenResting_of_busy hb]

/-- `s` with the refusal of a host write recorded (70_reset_and_hazards R240). -/
def State.refusing (s : State) : State := { s with hz := s.hz || HostAccess.isWrite s.input.host }

/-- The host's part of a step that begins busy: nothing but the refusal of a write. -/
theorem hostPhase_of_busy {s : State} (hb : s.busy = true) : hostPhase s = .next s.refusing := by
  cases hw : s.input.host with
  | none => simp [hostPhase, hw, State.refusing, HostAccess.isWrite]
  | read a => simp [hostPhase, hw, State.refusing, HostAccess.isWrite]
  | write a d =>
    rw [hostPhase_write_of_busy hb hw]
    simp [State.refusing, hw, HostAccess.isWrite, State.withHz]

/-- A step that begins busy is the dispatcher's transition, with the refusal of a host write recorded. -/
theorem step_of_busy {s : State} (h : s.input.rst = false) (hb : s.busy = true) :
    step s = andThen (dispatcherPhase s.refusing) fun t => .next t.advance := by
  rw [step_of_not_rst h, activePhase, hostPhase_of_busy hb, andThen_next, hb]
  rfl

/-- What the host's access can be at rest: nothing, a read, an operation, a reserved operation word, or a register write. -/
theorem hostPhase_of_resting {s : State} (hb : s.busy = false) :
    (HostAccess.isWrite s.input.host = false ∧ hostPhase s = .next s) ∨
    (∃ d i, s.input.host = .write opRegister d ∧ decodeOp d = .ok i ∧ hostPhase s = exec i s) ∨
    (∃ d e, s.input.host = .write opRegister d ∧ decodeOp d = .error e ∧ hostPhase s = .next s.withIll) ∨
    (∃ a d, s.input.host = .write a d ∧ a ≠ opRegister ∧ hostPhase s = .next (storeRegister a d s)) := by
  cases hw : s.input.host with
  | none => simp [hostPhase, hw, HostAccess.isWrite]
  | read a => simp [hostPhase, hw, HostAccess.isWrite]
  | write a d =>
    by_cases ha : a = opRegister
    · subst ha
      cases hd : decodeOp d with
      | ok i => exact .inr (.inl ⟨d, i, rfl, hd, by simp [hostPhase, hw, startOperation, hd]⟩)
      | error e =>
        exact .inr (.inr (.inl ⟨d, e, rfl, hd, by
          simp [hostPhase, hw, startOperation, hd, reservedOp, whenResting_of_resting hb]⟩))
    · exact .inr (.inr (.inr ⟨a, d, rfl, ha, by
        simp [hostPhase, hw, ha, writeRegister, whenResting_of_resting hb]⟩))

end Sys2Proof.Machine
end

