-- ==== Sys2Proof/Laws/PerInstr.lean ====
section
/-! SUPPORT. What holds of every instruction as syntax: its encoding has the fixed bits of its row of spec/opcode_table.json. -/

namespace Sys2Proof.Laws.TablePattern

/-- The fixed bits of a row of spec/opcode_table.json: its width, its `mask` and its `match`, the latter with `QUERY_FC` in place
of the printed 0x33 (30_encoding R104). -/
structure Row where
  nbits : Nat
  mask : BitVec 40
  fixed : Byte → BitVec 40

/-- The row of each instruction, copied from the table. -/
def row : Instr → Row
  | .cksum => { nbits := 16, mask := 0x000F#40, fixed := fun _ => 0x0001#40 }
  | .build => { nbits := 16, mask := 0x000F#40, fixed := fun _ => 0x0002#40 }
  | .tplua => { nbits := 16, mask := 0x000F#40, fixed := fun _ => 0x0003#40 }
  | .tplqa => { nbits := 16, mask := 0x000F#40, fixed := fun _ => 0x0004#40 }
  | .send _ _ => { nbits := 16, mask := 0x000F#40, fixed := fun _ => 0x0005#40 }
  | .decode => { nbits := 16, mask := 0x000F#40, fixed := fun _ => 0x0006#40 }
  | .istat _ => { nbits := 16, mask := 0x000F#40, fixed := fun _ => 0x0007#40 }
  | .unlockAll _ => { nbits := 40, mask := 0xFFFFFFFF00#40, fixed := fun _ => 0x8A01001100#40 }
  | .unlockIndividual _ _ _ => { nbits := 40, mask := 0xFF0000FF00#40, fixed := fun _ => 0x8A00001100#40 }
  | .queryIndividual _ _ _ =>
    { nbits := 40, mask := 0xFF0000FF00#40, fixed := fun q => 0x8000000000#40 ||| q.setWidth 40 <<< 8 }
  | .queryAll _ => { nbits := 40, mask := 0xFFFFFFFF00#40, fixed := fun q => 0x8001000000#40 ||| q.setWidth 40 <<< 8 }

/-- The encoding has its row's width and its row's fixed bits, whatever the operands and the configuration. -/
def Statement (i : Instr) : Prop :=
  ∀ cfg : Config, (encode cfg i).bits < 2 ^ (row i).nbits ∧
    BitVec.ofNat 40 (encode cfg i).bits &&& (row i).mask = (row i).fixed cfg.queryFc

/-- Bits [3:0] of an operation word are its operation code. -/
theorem opWord_pattern (port : Byte) (ct opc : BitVec 4) :
    (Encoded.opWord (opWordOf port ct opc)).bits < 2 ^ 16 ∧
      BitVec.ofNat 40 (Encoded.opWord (opWordOf port ct opc)).bits &&& 0x000F#40 = opc.setWidth 40 := by
  refine ⟨(opWordOf port ct opc).isLt, BitVec.eq_of_getLsbD_eq fun i hi => ?_⟩
  simp only [Encoded.bits, opWordOf, BitVec.ofNat_toNat, BitVec.getLsbD_and, BitVec.getLsbD_setWidth, BitVec.getLsbD_append]
  interval_cases i <;> simp

/-- The header and function bytes of a frame in the table's numbering. -/
theorem individual_pattern (f : Frame) :
    (Encoded.frame f).bits < 2 ^ 40 ∧
      BitVec.ofNat 40 (Encoded.frame f).bits &&& 0xFF0000FF00#40 = f.header.setWidth 40 <<< 32 ||| f.func.setWidth 40 <<< 8 := by
  refine ⟨f.toBits.isLt, BitVec.eq_of_getLsbD_eq fun i hi => ?_⟩
  simp only [Encoded.bits, Frame.toBits, BitVec.ofNat_toNat, BitVec.getLsbD_and, BitVec.getLsbD_or, BitVec.getLsbD_shiftLeft,
    BitVec.getLsbD_setWidth, BitVec.getLsbD_append]
  interval_cases i <;> simp

/-- The four bytes before the checksum of a frame in the table's numbering. -/
theorem all_pattern (f : Frame) :
    (Encoded.frame f).bits < 2 ^ 40 ∧
      BitVec.ofNat 40 (Encoded.frame f).bits &&& 0xFFFFFFFF00#40 =
        (f.header.setWidth 40 <<< 32 ||| f.board.setWidth 40 <<< 24 ||| f.lock.setWidth 40 <<< 16) ||| f.func.setWidth 40 <<< 8 := by
  refine ⟨f.toBits.isLt, BitVec.eq_of_getLsbD_eq fun i hi => ?_⟩
  simp only [Encoded.bits, Frame.toBits, BitVec.ofNat_toNat, BitVec.getLsbD_and, BitVec.getLsbD_or, BitVec.getLsbD_shiftLeft,
    BitVec.getLsbD_setWidth, BitVec.getLsbD_append]
  interval_cases i <;> simp

theorem cksum : Statement .cksum := fun _ => opWord_pattern 0 0 1
theorem build : Statement .build := fun _ => opWord_pattern 0 0 2
theorem tplua : Statement .tplua := fun _ => opWord_pattern 0 0 3
theorem tplqa : Statement .tplqa := fun _ => opWord_pattern 0 0 4
theorem send (port : Byte) (ct : BitVec 4) : Statement (.send port ct) := fun _ => opWord_pattern port ct 5
theorem decode : Statement .decode := fun _ => opWord_pattern 0 0 6
theorem istat (ct : BitVec 4) : Statement (.istat ct) := fun _ => opWord_pattern 0 ct 7
theorem unlockAll (c : Byte) : Statement (.unlockAll c) := fun _ =>
  have h := all_pattern (unlockAllFrame c)
  ⟨h.1, h.2.trans (by simp [unlockAllFrame, row, hdrUnlock, boardConst, lockAll, fcUnlock])⟩
theorem unlockIndividual (b l c : Byte) : Statement (.unlockIndividual b l c) := fun _ =>
  have h := individual_pattern (unlockIndividualFrame b l c)
  ⟨h.1, h.2.trans (by simp [unlockIndividualFrame, row, hdrUnlock, fcUnlock])⟩
theorem queryIndividual (b l c : Byte) : Statement (.queryIndividual b l c) := fun cfg =>
  have h := individual_pattern (queryIndividualFrame cfg b l c)
  ⟨h.1, h.2.trans (by simp [queryIndividualFrame, row, hdrQuery])⟩
theorem queryAll (c : Byte) : Statement (.queryAll c) := fun cfg =>
  have h := all_pattern (queryAllFrame cfg c)
  ⟨h.1, h.2.trans (by simp [queryAllFrame, row, hdrQuery, boardConst, lockAll])⟩

end Sys2Proof.Laws.TablePattern
end

