-- ==== Sys2Proof/Tests/Slice0.lean ====
section
/-! SUPPORT. The model's own tests. Expected values are the spec's (spec/30_encoding.md R92, spec/95_test_vectors.md E, DV, the rules'
worked cases), never the model's answer. The witnesses at the end show that the hypotheses of the statements can be met. -/

namespace Sys2Proof.Tests

open Sys2Proof.Machine

/-- A state at rest in IDLE whose next input is `i`. -/
def idle (i : Input) : State := { State.reset with inputs := [i] }

/-- The input in which the host does `h` and nothing else happens. -/
def hostDoes (h : HostAccess) : Input := { Input.quiet with host := h }

/-- The host writes `OP`. -/
def opWrite (w : HostWord) : Input := hostDoes (.write 0x04#5 w)

/-- `s` with its four operand registers. -/
def withOperands (h b l f : HostWord) (s : State) : State := { s with hdr := h, brd := b, lck := l, fnc := f }

/-- `s` with a response of `n` elements. -/
def withResponse (r : Vector HostWord 7) (n : BitVec 4) (s : State) : State := { s with rsp := r, rspLen := n }

/-- A dispatch in progress in the state `d`, with the frame `8A 01 05 11 9F`. -/
def inDispatch (d : DispState) (i : Input) : State :=
  { State.reset with
    txf := { header := 0x8A#8, board := 0x01#8, lock := 0x05#8, func := 0x11#8, checksum := 0x9F#8 }
    txv := true
    result := { tag := .none, err := .none, lastOp := 5#4 }
    ds := d
    conn := true
    dct := 1#4
    inputs := [i] }

/-- A view of the next state, if there is one. -/
def seen {α : Type} (o : Out) (view : State → α) : Option α :=
  match o with
  | .next t => some (view t)
  | .fault _ => none
  | .refused _ => none

/-! Ill-formed instructions, one for each check. -/

theorem test_ill_formed_unlockAll_checksum : (Instr.unlockAll 0x9B#8).wellFormed Config.default = false := by decide
theorem test_ill_formed_queryAll_checksum : (Instr.queryAll 0xB3#8).wellFormed Config.default = false := by decide
theorem test_ill_formed_unlockIndividual_checksum :
    (Instr.unlockIndividual 0x01#8 0x05#8 0x9E#8).wellFormed Config.default = false := by decide
theorem test_ill_formed_queryIndividual_checksum :
    (Instr.queryIndividual 0x01#8 0x01#8 0x00#8).wellFormed Config.default = false := by decide
/-- Board 0x02 with its right checksum 0x9C (DV2.3), where `BOARD_FIXED` holds. -/
theorem test_ill_formed_board : (Instr.unlockIndividual 0x02#8 0x05#8 0x9C#8).wellFormed Config.default = false := by decide
/-- Lock address 0x00 belongs to the "all doors" commands: the checksum is right. -/
theorem test_ill_formed_lock_all_doors : (Instr.unlockIndividual 0x01#8 0x00#8 0x9A#8).wellFormed Config.default = false := by decide
/-- Door 25 is a pass-through, not ill-formed (DV2.5). -/
theorem test_door_25_passes : (Instr.unlockIndividual 0x01#8 0x19#8 0x83#8).wellFormed Config.default = true := by decide

/-! Words written out from the encodings of 30_encoding R80, R92 and 95_test_vectors 2.6. -/

theorem test_word_cksum : decodeTableWord 16 0b0000000000000001 = some .cksum := by decide
theorem test_word_build : decodeTableWord 16 0b0000000000000010 = some .build := by decide
theorem test_word_tplua : decodeTableWord 16 0b0000000000000011 = some .tplua := by decide
theorem test_word_tplqa : decodeTableWord 16 0b0000000000000100 = some .tplqa := by decide
theorem test_word_send : decodeTableWord 16 0b0000001000010101 = some (.send 2#8 1#4) := by decide
theorem test_word_decode : decodeTableWord 16 0b0000000000000110 = some .decode := by decide
theorem test_word_istat : decodeTableWord 16 0b0000000000100111 = some (.istat 2#4) := by decide
theorem test_word_unlockAll : decodeTableWord 40 0x8A0100119A = some (.unlockAll 0x9A#8) := by decide
theorem test_word_unlockIndividual :
    decodeTableWord 40 0x8A0105119F = some (.unlockIndividual 0x01#8 0x05#8 0x9F#8) := by decide
theorem test_word_queryIndividual :
    decodeTableWord 40 0x80010133B3 = some (.queryIndividual 0x01#8 0x01#8 0xB3#8) := by decide
theorem test_word_queryAll : decodeTableWord 40 0x80010033B2 = some (.queryAll 0xB2#8) := by decide
/-- DV5.10: the ignored fields of an operation word. -/
theorem test_word_ignored_fields : decodeTableWord 16 0xFFF1 = some .cksum := by decide
theorem test_word_reserved_0 : decodeOp 0xFFF0#16 = .error (.reservedOpcode 0#4) := by decide
theorem test_word_reserved_15 : decodeOp 0x000F#16 = .error (.reservedOpcode 15#4) := by decide
/-- A reply function code is no command. -/
theorem test_word_no_pattern : decodeTableWord 40 0x8A0105008E = none := by decide
theorem test_word_wrong_length : Encoded.ofBits 24 0 = .error (.wrongLength 24) := by decide

/-! Operations: the spec's vectors. -/

/-- E1 and DV1.1, through a whole step. -/
theorem test_cksum_E1 : seen (step (withOperands 0x008A#16 0x0001#16 0x0005#16 0x0011#16 (idle (opWrite 0x0001#16))))
    (fun t => (t.cks, t.result.word)) = some (0x9F#8, 0x0101#16) := by decide
/-- DV1.10: an operand above 0xFF; `CKS` is unchanged. -/
theorem test_cksum_DV1_10 :
    seen (exec .cksum { withOperands 0x0100#16 0x0001#16 0x0005#16 0x0011#16 State.reset with cks := 0x9F#8 })
      (fun t => (t.cks, t.result.word)) = some (0x9F#8, 0x010E#16) := by decide

/-- DV2.2: the board byte is replaced before the checksum. -/
theorem test_build_DV2_2 : seen (exec .build (withOperands 0x008A#16 0x0002#16 0x0005#16 0x0011#16 State.reset))
    (fun t => (t.txf.toBits, t.txv, t.cks, t.result.word)) = some (0x8A0105119F#40, true, 0x9F#8, 0x0201#16) := by decide
/-- DV2.12: a failed BUILD erases the old frame and leaves `CKS`. -/
theorem test_build_DV2_12 :
    seen (exec .build { withOperands 0x008A#16 0x0001#16 0x0105#16 0x0011#16 (inDispatch .closed Input.quiet) with cks := 0x9F#8 })
      (fun t => (t.txf.toBits, t.txv, t.cks, t.result.word)) = some (0#40, false, 0x9F#8, 0x020E#16) := by decide

/-- DV2.14. -/
theorem test_tplua_DV2_14 : seen (exec .tplua State.reset) (fun t => (t.txf.toBits, t.txv, t.cks, t.result.word)) =
    some (0x8A0100119A#40, true, 0x00#8, 0x0301#16) := by decide
/-- 10_state R42 item 4: the template is sealed. -/
theorem test_tplua_sealed : seen (exec .tplua State.reset) (fun t => t.txf.checksumOk) = some true := by decide

/-- DV2.15. -/
theorem test_tplqa_DV2_15 : seen (exec .tplqa State.reset) (fun t => (t.txf.toBits, t.txv, t.cks, t.result.word)) =
    some (0x80010033B2#40, true, 0x00#8, 0x0401#16) := by decide
/-- DV2.16: `QUERY_FC` = 0x00. -/
theorem test_tplqa_DV2_16 :
    seen (exec .tplqa { State.reset with cfg := { Config.default with queryFc := 0x00#8 } }) (fun t => t.txf.toBits) =
      some 0x8001000081#40 := by decide

/-- DV6.3: the type is checked first, the latches stay, the state is CLOSED. -/
theorem test_send_DV6_3 :
    seen (step { inDispatch .idle (opWrite 0x0795#16) with dct := 2#4, dport := 0x05#8, rxcnt := 5#3, rspLen := 5#4 })
      (fun t => (t.ds, t.result.word, t.dct, t.dport, t.rxcnt, t.rspLen)) =
      some (.closed, 0x0512#16, 2#4, 0x05#8, 0#3, 0#4) := by decide
/-- DV6.1: accepted; the earlier exchange is cleared. -/
theorem test_send_DV6_1 :
    seen (step { inDispatch .idle (opWrite 0x0215#16) with conn := false, dct := 0#4, rspLen := 5#4, dgn := 3#3, istat := .locked, rxcnt := 5#3 })
      (fun t => (t.ds, t.dct, t.dport, t.result.word, t.rspLen, t.dgn, t.istat.code, t.rxcnt)) =
      some (.opening, 1#4, 0x02#8, 0x0500#16, 0#4, 0#3, 0#3, 0#3) := by decide

/-- DV3.2: the group order is the wire order. -/
theorem test_decode_DV3_2 :
    seen (exec .decode (withResponse #v[0x80#16, 0x01#16, 0xFF#16, 0x00#16, 0xA5#16, 0x33#16, 0xE8#16] 7#4 State.reset))
      (fun t => (groupList t, t.dgn, t.result.word)) = some ([0xFF#8, 0x00#8, 0xA5#8], 3#3, 0x0601#16) := by decide
/-- DV3.5: an unused element is checked too. -/
theorem test_decode_DV3_5 :
    seen (exec .decode (withResponse #v[0x180#16, 0x01#16, 0x01#16, 0x01#16, 0x01#16, 0x33#16, 0xB3#16] 7#4 State.reset))
      (fun t => (t.dgn, t.result.word)) = some (0#3, 0x060E#16) := by decide

/-- DV4.1 and DV4.2: the closed code after an unlock, and after a query. -/
theorem test_istat_DV4_1_2 :
    let s := withResponse #v[0x8A#16, 0x01#16, 0x05#16, 0x11#16, 0x9F#16, 0#16, 0#16] 5#4 State.reset
    (seen (exec (.istat 1#4) s) (fun t => t.istat.code), seen (exec (.istat 2#4) s) (fun t => t.istat.code)) =
      (some 3#3, some 2#3) := by decide
/-- DV4.12: the type is checked before the length. -/
theorem test_istat_DV4_12 : seen (exec (.istat 9#4) State.reset) (fun t => (t.istat.code, t.result.word)) =
    some (0#3, 0x0712#16) := by decide

/-! Command frames: what the core does with each while it presents it. -/

/-- DV6.9. -/
theorem test_unlockAll_DV6_9 :
    seen (step (State.reset.withFetchWord 40 0x8A0100119A)) (fun t => (t.ds, t.tmr, t.rxcnt)) = some (.reading, 40#6, 0#3) := by
  decide
/-- DV6.11. -/
theorem test_unlockAll_DV6_11 :
    seen (exec (.unlockAll 0x9A#8)
        { inDispatch .writing { Input.quiet with txRsp := .fail } with txf := unlockAllFrame 0x9A#8 })
      (fun t => (t.ds, t.result.word, (outputs t).closeReq)) = some (.tfault, 0x0506#16, true) := by decide
/-- R171 and R162: `tx_data` with offset 0 on top; the short window. -/
theorem test_unlockIndividual_done :
    ((outputs (inDispatch .writing sentInput)).txData,
      seen (exec (.unlockIndividual 0x01#8 0x05#8 0x9F#8) (inDispatch .writing sentInput)) (fun t => (t.ds, t.tmr))) =
      (0x8A0105119F#40, some (.reading, 3#6)) := by decide
/-- DV6.12: other inputs are ignored in WRITING. -/
theorem test_unlockIndividual_DV6_12 :
    seen (exec (.unlockIndividual 0x01#8 0x05#8 0x9F#8)
        (inDispatch .writing { Input.quiet with rx := .fault, tick := true, openRsp := .fail })) (fun t => t.ds) = some .writing := by
  decide
theorem test_queryIndividual_done :
    seen (step (State.reset.withFetchWord 40 0x80010133B3)) (fun t => (t.ds, t.tmr, explen t.dct)) = some (.reading, 3#6, 5) := by
  decide
/-- DV6.10, and the reply length of QueryAll. -/
theorem test_queryAll_DV6_10 :
    seen (step (State.reset.withFetchWord 40 0x80010033B2)) (fun t => (t.ds, t.tmr, explen t.dct)) = some (.reading, 3#6, 7) := by
  decide

/-! Host accesses and priorities. -/

/-- DV5.12: busy in SUCCESS; the write is refused and the state moves on. -/
theorem test_busy_DV5_12 : seen (step (inDispatch .success (opWrite 0x0006#16)))
    (fun t => (t.hz, t.ill, t.ds, t.conn, t.result.lastOp)) = some (true, false, .closed, false, 5#4) := by decide
/-- DV5.14. -/
theorem test_read_DV5_14 :
    hrdata { inDispatch .reading (hostDoes (.read 0x05#5)) with rxcnt := 1#3 } = some 0x0173#16 := by decide
/-- DV6.14: the completing byte and the last tick. -/
theorem test_reading_DV6_14 :
    seen (step { inDispatch .reading { Input.quiet with rx := .byte 0x9F#8, tick := true } with tmr := 1#6, rxcnt := 4#3 })
      (fun t => (t.rxcnt, t.rspLen, t.ds, t.result.word, t.tmr, hostRead t 0x14#5)) =
      some (5#3, 5#4, .success, 0x0501#16, 1#6, 0x009F#16) := by decide
/-- DV6.19. -/
theorem test_reading_DV6_19 :
    seen (step { inDispatch .reading { Input.quiet with rx := .byte 0x05#8, tick := true } with tmr := 1#6, rxcnt := 2#3 })
      (fun t => (t.rxcnt, t.ds, t.result.word, hostRead t 0x12#5)) = some (3#3, .timeout, 0x050A#16, 0#16) := by decide
/-- DV5.16. -/
theorem test_reset_DV5_16 : seen (step (inDispatch .writing { opWrite 0x0000#16 with rst := true }))
    (fun t => (statusWord t, t.result.word, t.txf.toBits)) = some (0#16, 0#16, 0#40) := by decide
/-- 10_state R47: a DispatchResult is that of a SEND, not of another operation (DV6.5 against DV1.4 and DV3.11). -/
theorem test_dispatchResult_after_send_only :
    (dispatchResult State.reset, seen (exec .cksum State.reset) dispatchResult,
      seen (exec .decode { State.reset with rspLen := 8#4 }) dispatchResult, seen (exec (.send 2#8 1#4) State.reset) dispatchResult) =
      (none, some none, some none, some (some (.failure .malformedInput))) := by decide
/-- 42_response_decoder R145. -/
theorem test_bin8_B3 : bin8 0xB3#8 = ['1', '0', '1', '1', '0', '0', '1', '1'] := by decide

/-! Witnesses: for each statement with hypotheses, states and operands that meet them, clause by clause, at boundary values. -/

/-- Operands at the top of the byte range, at rest. -/
def topOperands : State := withOperands 0x00FF#16 0x00FF#16 0x00FF#16 0x00FF#16 (idle Input.quiet)

/-- Every operand register just above the byte range, one at a time. -/
def beyondOperands : List State :=
  [withOperands 0x0100#16 0#16 0#16 0#16 (idle Input.quiet), withOperands 0#16 0x0100#16 0#16 0#16 (idle Input.quiet),
   withOperands 0#16 0#16 0x0100#16 0#16 (idle Input.quiet), withOperands 0#16 0#16 0#16 0x0100#16 (idle Input.quiet)]

/-- For TPLUA, TPLQA and every statement with a busy or a resting clause. -/
theorem witness_busy : (inDispatch .opening Input.quiet).busy = true ∧ (inDispatch .tfault Input.quiet).busy = true := by decide
theorem witness_resting : (idle Input.quiet).busy = false ∧ (inDispatch .closed Input.quiet).busy = false := by decide

/-- Also for BUILD and `CksumAndBuildDifferByBoardByte`. -/
theorem witness_CksumFoldsOperandsOrFails :
    (topOperands.busy = false ∧ topOperands.hdr.toNat ≤ 0xFF ∧ topOperands.brd.toNat ≤ 0xFF ∧ topOperands.lck.toNat ≤ 0xFF ∧
      topOperands.fnc.toNat ≤ 0xFF) ∧
    ∀ s ∈ beyondOperands, s.busy = false ∧
      (0xFF < s.hdr.toNat ∨ 0xFF < s.brd.toNat ∨ 0xFF < s.lck.toNat ∨ 0xFF < s.fnc.toNat) := by decide

theorem witness_BuildInjectsChecksumOrErasesFrame :
    (topOperands.busy = false ∧ topOperands.hdr.toNat ≤ 0xFF ∧ topOperands.brd.toNat ≤ 0xFF ∧ topOperands.lck.toNat ≤ 0xFF ∧
      topOperands.fnc.toNat ≤ 0xFF) ∧
    ∀ s ∈ beyondOperands, s.busy = false ∧
      (0xFF < s.hdr.toNat ∨ 0xFF < s.brd.toNat ∨ 0xFF < s.lck.toNat ∨ 0xFF < s.fnc.toNat) := by decide

theorem witness_CksumAndBuildDifferByBoardByte :
    topOperands.busy = false ∧ topOperands.hdr.toNat ≤ 0xFF ∧ topOperands.brd.toNat ≤ 0xFF ∧ topOperands.lck.toNat ≤ 0xFF ∧
      topOperands.fnc.toNat ≤ 0xFF ∧ topOperands.cfg.boardFixed = true := by decide

theorem witness_operation_codes :
    (∀ k : Fin 7, (BitVec.ofNat 16 (0xFFF1 + k.val)).extractLsb' 0 4 = BitVec.ofNat 4 (1 + k.val)) ∧
    (0xFFF0#16).extractLsb' 0 4 = 0#4 ∧ 8 ≤ ((0x0008#16).extractLsb' 0 4).toNat ∧ 8 ≤ ((0xFFFF#16).extractLsb' 0 4).toNat := by
  decide

/-- With `witness_resting`. -/
theorem witness_TemplatesAreWhatBuildMakes :
    (∃ s t u : State, s.busy = false ∧ s.cfg.boardFixed = true ∧ s.brd.toNat ≤ 0xFF ∧ s.lck = 0x0000#16 ∧
      exec .build s = .next t ∧ s.hdr = 0x008A#16 ∧ s.fnc = 0x0011#16 ∧ exec .tplua s = .next u) ∧
    (∃ s t u : State, s.busy = false ∧ s.cfg.boardFixed = true ∧ s.brd.toNat ≤ 0xFF ∧ s.lck = 0x0000#16 ∧
      exec .build s = .next t ∧ s.hdr = 0x0080#16 ∧ s.fnc = s.cfg.queryFc.setWidth 16 ∧ exec .tplqa s = .next u) :=
  ⟨⟨withOperands 0x008A#16 0x00FF#16 0x0000#16 0x0011#16 (idle Input.quiet), _, _, by decide, by decide, by decide, by decide, rfl,
      by decide, by decide, rfl⟩,
    ⟨withOperands 0x0080#16 0x00FF#16 0x0000#16 0x0033#16 (idle Input.quiet), _, _, by decide, by decide, by decide, by decide, rfl,
      by decide, by decide, rfl⟩⟩

theorem witness_SendClearsLastExchange : (inDispatch .reading Input.quiet).busy = true ∧ (idle Input.quiet).busy = false := by decide
theorem witness_SendRejectsUnknownTypeFirst : (idle Input.quiet).busy = false ∧ 3 < (4#4).toNat := by decide
theorem witness_SendWithoutFrameFails :
    (idle Input.quiet).busy = false ∧ (3#4).toNat ≤ 3 ∧ (idle Input.quiet).txv = false := by decide
theorem witness_SendAcceptedLatchesAndOpens :
    (inDispatch .closed Input.quiet).busy = false ∧ (3#4).toNat ≤ 3 ∧ (inDispatch .closed Input.quiet).txv = true := by decide

/-- A response of `n` elements, all 0x00FF but the last, which is `v`. -/
def responseEnding (v : HostWord) (n : BitVec 4) : State :=
  withResponse #v[0xFF#16, 0xFF#16, 0xFF#16, 0xFF#16, 0xFF#16, 0xFF#16, v] n (idle Input.quiet)

theorem witness_DecodeListsGroupsOrFails :
    (inDispatch .success Input.quiet).busy = true ∧
    ((responseEnding 0#16 8#4).busy = false ∧ 7 < (responseEnding 0#16 8#4).rspLen.toNat) ∧
    ((responseEnding 0x0100#16 7#4).busy = false ∧
      ∃ i : Fin 7, i.val < (responseEnding 0x0100#16 7#4).rspLen.toNat ∧ 0xFF < (responseEnding 0x0100#16 7#4).rsp[i].toNat) ∧
    ((responseEnding 0x00FF#16 7#4).busy = false ∧ (responseEnding 0x00FF#16 7#4).rspLen.toNat = 7 ∧
      ∀ i : Fin 7, (responseEnding 0x00FF#16 7#4).rsp[i].toNat ≤ 0xFF) ∧
    ((responseEnding 0x0100#16 6#4).busy = false ∧ (responseEnding 0x0100#16 6#4).rspLen.toNat ≤ 6 ∧
      ∀ i : Fin 7, i.val < (responseEnding 0x0100#16 6#4).rspLen.toNat → (responseEnding 0x0100#16 6#4).rsp[i].toNat ≤ 0xFF) ∧
    ((responseEnding 0x0100#16 0#4).busy = false ∧ (responseEnding 0x0100#16 0#4).rspLen.toNat ≤ 6 ∧
      ∀ i : Fin 7, i.val < (responseEnding 0x0100#16 0#4).rspLen.toNat → (responseEnding 0x0100#16 0#4).rsp[i].toNat ≤ 0xFF) := by
  decide

theorem witness_IstatClassifiesByCommandType :
    (inDispatch .timeout Input.quiet).busy = true ∧
    ((idle Input.quiet).busy = false ∧ 3 < (4#4).toNat) ∧
    ((responseEnding 0#16 6#4).busy = false ∧ (3#4).toNat ≤ 3 ∧ (responseEnding 0#16 6#4).rspLen ≠ 5#4) ∧
    ((responseEnding 0x0100#16 5#4).busy = false ∧ (0#4).toNat ≤ 3 ∧ (responseEnding 0x0100#16 5#4).rspLen = 5#4 ∧
      ∀ i : Fin 7, i.val < 5 → (responseEnding 0x0100#16 5#4).rsp[i].toNat ≤ 0xFF) ∧
    (∀ s ∈ [withResponse #v[0#16, 0#16, 0#16, 0#16, 0x0100#16, 0#16, 0#16] 5#4 (idle Input.quiet)],
      s.busy = false ∧ ∃ i : Fin 7, i.val < 5 ∧ 0xFF < s.rsp[i].toNat) := by decide

/-- `s` in WRITING presenting `f`. -/
def presenting (f : Frame) (i : Input) : State := { inDispatch .writing i with txf := f }

/-- Each command frame presented, with each of the transport's answers. -/
theorem witness_CommandFramesCarryOutWritePhase :
    ((presenting (unlockAllFrame 0x9A#8) sentInput).ds = .writing ∧
      (presenting (unlockAllFrame 0x9A#8) sentInput).txf =
        { header := 0x8A#8, board := 0x01#8, lock := 0x00#8, func := 0x11#8, checksum := 0x9A#8 } ∧
      (presenting (unlockAllFrame 0x9A#8) sentInput).input.txRsp = .done) ∧
    ((presenting (unlockIndividualFrame 0x01#8 0x05#8 0x9F#8) Input.quiet).ds = .writing ∧
      (presenting (unlockIndividualFrame 0x01#8 0x05#8 0x9F#8) Input.quiet).txf =
        { header := 0x8A#8, board := 0x01#8, lock := 0x05#8, func := 0x11#8, checksum := 0x9F#8 } ∧
      (presenting (unlockIndividualFrame 0x01#8 0x05#8 0x9F#8) Input.quiet).input.txRsp = .none) ∧
    (∀ s ∈ [presenting (queryIndividualFrame Config.default 0x01#8 0x01#8 0xB3#8) { Input.quiet with txRsp := .fail }],
      s.ds = .writing ∧
        s.txf = { header := 0x80#8, board := 0x01#8, lock := 0x01#8, func := s.cfg.queryFc, checksum := 0xB3#8 } ∧
        s.input.txRsp = .fail) ∧
    (∀ s ∈ [presenting (queryAllFrame Config.default 0xB2#8) sentInput],
      s.ds = .writing ∧
        s.txf = { header := 0x80#8, board := 0x01#8, lock := 0x00#8, func := s.cfg.queryFc, checksum := 0xB2#8 } ∧
        s.input.txRsp = .done) := by decide

/-- A frame at rest; and in WRITING, another frame than the one presented. -/
theorem witness_FrameNotPresentedIsRefused :
    (encode (idle Input.quiet).cfg (.unlockAll 0x9A#8) = .frame (unlockAllFrame 0x9A#8) ∧ (idle Input.quiet).ds ≠ .writing) ∧
    (encode (inDispatch .writing Input.quiet).cfg (.unlockAll 0x9A#8) = .frame (unlockAllFrame 0x9A#8) ∧
      (inDispatch .writing Input.quiet).txf ≠ unlockAllFrame 0x9A#8) := by decide

theorem witness_StepRunsDecodedOperation :
    ((idle (opWrite 0x0215#16)).input.rst = false ∧ (idle (opWrite 0x0215#16)).input.host = .write 0x04#5 0x0215#16 ∧
      decodeOp 0x0215#16 = .ok (.send 2#8 1#4) ∧ (idle (opWrite 0x0215#16)).busy = false) ∧
    ((inDispatch .reading (opWrite 0x0006#16)).input.rst = false ∧
      (inDispatch .reading (opWrite 0x0006#16)).input.host = .write 0x04#5 0x0006#16 ∧ decodeOp 0x0006#16 = .ok .decode ∧
      (inDispatch .reading (opWrite 0x0006#16)).busy = true) := by decide

theorem witness_StepRunsPresentedCommandFrame :
    (inDispatch .writing sentInput).input.rst = false ∧ HostAccess.isWrite (inDispatch .writing sentInput).input.host = false ∧
    (inDispatch .writing sentInput).ds = .writing ∧
    decodeFrame (inDispatch .writing sentInput).cfg (inDispatch .writing sentInput).txf =
      .ok (.unlockIndividual 0x01#8 0x05#8 0x9F#8) := by decide

theorem witness_PlacedInstructionRunsNext :
    decodeTableWord 16 0x0215 = some (.send 2#8 1#4) ∧ State.reset.cfg.queryFc = 0x33#8 ∧
    decodeTableWord 40 0x80010033B2 = some (.queryAll 0xB2#8) := by decide

theorem witness_DecodeUndoesEncode :
    (Instr.send 0xFF#8 15#4).wellFormed Config.default = true ∧
    (Instr.queryIndividual 0x07#8 0xFF#8 0x78#8).wellFormed
      { Config.default with boardFixed := false, queryFc := 0x00#8 } = true := by decide

theorem witness_EncodeUndoesFrameDecode :
    decodeFrame Config.default (unlockAllFrame 0x9A#8) = .ok (.unlockAll 0x9A#8) ∧
    decodeFrame Config.default (unlockIndividualFrame 0x00#8 0x00#8 0x00#8) = .ok (.unlockIndividual 0x00#8 0x00#8 0x00#8) := by
  decide

theorem witness_HeaderAndLockClassifyCommands :
    (Instr.unlockIndividual 0x01#8 0x01#8 0x9B#8).wellFormed Config.default = true ∧
    encode Config.default (.unlockIndividual 0x01#8 0x01#8 0x9B#8) = .frame (unlockIndividualFrame 0x01#8 0x01#8 0x9B#8) := by decide

theorem witness_ResetOverridesTheStep :
    (inDispatch .reading { hostDoes (.read 0x1F#5) with rst := true }).input.rst = true ∧
    (inDispatch .reading { hostDoes (.read 0x1F#5) with rst := true }).input.host = .read 0x1F#5 := by decide

/-- The host writes `d` to the register number `a`, at rest and without reset. -/
abbrev WritesAtRest (s : State) (a : RegNum) (d : HostWord) : Prop :=
  s.input.rst = false ∧ s.busy = false ∧ s.input.host = .write a d

/-- A resting state whose next input is that write. -/
def writing (a : RegNum) (d : HostWord) : State := idle (hostDoes (.write a d))

theorem writing_writes (a : RegNum) (d : HostWord) : WritesAtRest (writing a d) a d := ⟨rfl, rfl, rfl⟩

theorem witness_RegisterWritesStoreWholeWords :
    (WritesAtRest (writing 0x00#5 0xFFFF#16) 0x00#5 0xFFFF#16 ∧ WritesAtRest (writing 0x01#5 0xFFFF#16) 0x01#5 0xFFFF#16 ∧
      WritesAtRest (writing 0x02#5 0xFFFF#16) 0x02#5 0xFFFF#16 ∧ WritesAtRest (writing 0x03#5 0xFFFF#16) 0x03#5 0xFFFF#16) ∧
    (WritesAtRest (writing 0x10#5 0xFFFF#16) 0x10#5 0xFFFF#16 ∧ (0x10#5).toNat = 0x10 + (0 : Fin 7).val) ∧
    (WritesAtRest (writing 0x16#5 0xFFFF#16) 0x16#5 0xFFFF#16 ∧ (0x16#5).toNat = 0x10 + (6 : Fin 7).val) ∧
    WritesAtRest (writing 0x17#5 0xFFFF#16) 0x17#5 0xFFFF#16 := by decide

theorem witness_UnwritableNumbersSetIllOnly :
    (WritesAtRest (writing 0x05#5 0#16) 0x05#5 0#16 ∧ 0x05 ≤ (0x05#5).toNat ∧ (0x05#5).toNat ≤ 0x0F) ∧
    (WritesAtRest (writing 0x0F#5 0#16) 0x0F#5 0#16 ∧ 0x05 ≤ (0x0F#5).toNat ∧ (0x0F#5).toNat ≤ 0x0F) ∧
    (WritesAtRest (writing 0x18#5 0#16) 0x18#5 0#16 ∧ 0x18 ≤ (0x18#5).toNat ∧ (0x18#5).toNat ≤ 0x1F) ∧
    (WritesAtRest (writing 0x1F#5 0#16) 0x1F#5 0#16 ∧ 0x18 ≤ (0x1F#5).toNat ∧ (0x1F#5).toNat ≤ 0x1F) := by decide

theorem witness_ReservedOpcodesSetIllOnly :
    (WritesAtRest (idle (opWrite 0xFFF0#16)) 0x04#5 0xFFF0#16 ∧ (0xFFF0#16).extractLsb' 0 4 = 0#4) ∧
    (WritesAtRest (idle (opWrite 0x0008#16)) 0x04#5 0x0008#16 ∧ 8 ≤ ((0x0008#16).extractLsb' 0 4).toNat) ∧
    (WritesAtRest (idle (opWrite 0x000F#16)) 0x04#5 0x000F#16 ∧ 8 ≤ ((0x000F#16).extractLsb' 0 4).toNat) := by decide

theorem witness_BusyWriteIsRefused :
    ∃ t : State, (inDispatch .reading Input.quiet).busy = true ∧ Input.quiet.rst = false ∧
      step { inDispatch .reading Input.quiet with inputs := [{ Input.quiet with host := .none }] } = .next t :=
  ⟨_, by decide, by decide, rfl⟩

theorem witness_OpeningFollowsTheAnswer :
    ∀ a ∈ [OpenRsp.none, OpenRsp.ok, OpenRsp.fail],
      ∀ s ∈ [{ inDispatch .opening { Input.quiet with openRsp := a } with conn := false }],
      s.input.rst = false ∧ s.ds = .opening ∧ s.input.openRsp = a := by decide

theorem witness_WritingFollowsTheAnswerForEveryFrame :
    ∀ a ∈ [TxRsp.none, TxRsp.done, TxRsp.fail],
      ∀ s ∈ [inDispatch .writing { Input.quiet with txRsp := a }],
      s.input.rst = false ∧ s.ds = .writing ∧ s.input.txRsp = a := by decide

/-- The fifth byte of a short reply and the seventh of a long one, with a tick. -/
theorem witness_CompletingByteSucceedsAtOnce :
    (∀ s ∈ [{ inDispatch .reading { Input.quiet with rx := .byte 0xFF#8, tick := true } with rxcnt := 4#3, tmr := 1#6 }],
      s.input.rst = false ∧ s.ds = .reading ∧ s.input.rx = .byte 0xFF#8 ∧ s.rxcnt.toNat + 1 = explen s.dct) ∧
    (∀ s ∈ [{ inDispatch .reading { Input.quiet with rx := .byte 0xFF#8 } with rxcnt := 6#3, dct := 3#4, tmr := 3#6 }],
      s.input.rst = false ∧ s.ds = .reading ∧ s.input.rx = .byte 0xFF#8 ∧ s.rxcnt.toNat + 1 = explen s.dct) := by decide

theorem witness_ReceiveFaultEndsTheDispatch :
    ∀ s ∈ [{ inDispatch .reading { Input.quiet with rx := .fault, tick := true } with tmr := 1#6 }],
    s.input.rst = false ∧ s.ds = .reading ∧ s.input.rx = .fault := by decide

theorem witness_ReadingCountsTicksAndBytes :
    (∀ s ∈ [{ inDispatch .reading { Input.quiet with tick := true } with tmr := 2#6 }],
      s.input.rst = false ∧ s.ds = .reading ∧ 1 < s.tmr.toNat ∧ s.input.rx = .none) ∧
    (∀ s ∈ [{ inDispatch .reading Input.quiet with tmr := 1#6 }],
      s.input.rst = false ∧ s.ds = .reading ∧ s.input.tick = false ∧ s.input.rx = .none) ∧
    (∀ s ∈ [{ inDispatch .reading { Input.quiet with rx := .byte 0x00#8, tick := true } with tmr := 2#6, rxcnt := 3#3 }],
      s.input.rst = false ∧ s.ds = .reading ∧ 1 < s.tmr.toNat ∧ s.input.rx = .byte 0x00#8 ∧ s.rxcnt.toNat < 7 ∧
        s.rxcnt.toNat + 1 ≠ explen s.dct) := by decide

theorem witness_LastTickTimesOutAndDropsPartialReply :
    (∀ s ∈ [{ inDispatch .reading { Input.quiet with tick := true } with tmr := 1#6 }],
      s.input.rst = false ∧ s.ds = .reading ∧ s.input.tick = true ∧ s.tmr = 1#6 ∧ s.input.rx = .none) ∧
    (∀ s ∈ [{ inDispatch .reading { Input.quiet with rx := .byte 0x05#8, tick := true } with tmr := 1#6, rxcnt := 3#3 }],
      s.input.rst = false ∧ s.ds = .reading ∧ s.input.tick = true ∧ s.tmr = 1#6 ∧ s.input.rx = .byte 0x05#8 ∧
        s.rxcnt.toNat < 7 ∧ s.rxcnt.toNat + 1 ≠ explen s.dct) := by decide

theorem witness_OutcomeStatesCloseInOneStep :
    ∀ d ∈ [DispState.success, DispState.timeout, DispState.tfault],
      ((inDispatch d Input.quiet).ds = .success ∨ (inDispatch d Input.quiet).ds = .timeout ∨
        (inDispatch d Input.quiet).ds = .tfault) ∧ (inDispatch d Input.quiet).input.rst = false := by decide

/-- In OPENING, WRITING, READING and CLOSED, inputs that differ in all a state does not look at. -/
theorem witness_UnlistedInputsAreIgnored :
    ∀ p ∈ [(DispState.opening, { Input.quiet with txRsp := .done, rx := .fault, tick := true }),
        (DispState.writing, { Input.quiet with openRsp := .fail, rx := .byte 0x55#8, tick := true }),
        (DispState.reading, { Input.quiet with openRsp := .fail, txRsp := .fail }),
        (DispState.closed, { Input.quiet with openRsp := .ok, txRsp := .done, rx := .byte 0x77#8, tick := true })],
      ∀ s ∈ [inDispatch p.1 Input.quiet], ∀ i ∈ [Input.quiet],
        i.rst = p.2.rst ∧ i.host = p.2.host ∧ (s.ds = .opening → i.openRsp = p.2.openRsp) ∧
          (s.ds = .writing → i.txRsp = p.2.txRsp) ∧ (s.ds = .reading → i.rx = p.2.rx ∧ i.tick = p.2.tick) := by decide

/-- For the statements about every step without reset: one such step in every dispatcher state. -/
theorem witness_step_without_reset :
    ∀ d ∈ [DispState.idle, .opening, .writing, .reading, .success, .timeout, .tfault, .closed],
      (inDispatch d Input.quiet).input.rst = false ∧ seen (step (inDispatch d Input.quiet)) (fun _ => true) = some true := by decide
theorem witness_DispatcherMovesByTheTable :
    ∃ s t : State, s.input.rst = false ∧ step s = .next t ∧ s.ds = .reading :=
  ⟨inDispatch .reading Input.quiet, _, by decide, rfl, by decide⟩

/-- The invariants hold in a state of every stage of a dispatch that was opened (beside `ResetMeetsInvariants`). -/
theorem reading_inv : CoreInv { inDispatch .reading Input.quiet with tmr := 40#6, rxcnt := 4#3 } := by
  refine ⟨?_, ?_, ?_, ?_, ?_, ?_, ?_, ?_, ?_, ?_, ?_⟩ <;> decide
theorem witness_StepKeepsInvariants :
    ∃ s t : State, CoreInv s ∧ step s = .next t ∧ s.busy = true :=
  ⟨{ inDispatch .reading Input.quiet with tmr := 40#6, rxcnt := 4#3 }, _, reading_inv, rfl, by decide⟩
theorem witness_NoStepStopsUnderInvariants : ∃ s : State, CoreInv s ∧ s.ds = .reading :=
  ⟨_, reading_inv, rfl⟩

theorem witness_ResultStaysInTheTable :
    ∃ s t : State, ResultLegal s ∧ step s = .next t ∧ s.ds = .reading :=
  ⟨inDispatch .reading Input.quiet, _, by unfold ResultLegal; decide, rfl, rfl⟩

theorem witness_StickyFlagsSetAndKept :
    (∃ s t : State, step s = .next t ∧ s.input.rst = true) ∧ (∃ s t : State, step s = .next t ∧ s.input.rst = false) :=
  ⟨⟨idle { Input.quiet with rst := true }, _, rfl, by decide⟩, ⟨idle (opWrite 0x0008#16), _, rfl, by decide⟩⟩

theorem witness_FrameBufferHasOneWriter :
    (∃ s t : State, s.input.rst = false ∧ step s = .next t ∧ s.busy = true) ∧
    (∃ s t : State, s.input.rst = false ∧ step s = .next t ∧ t.txv ≠ s.txv) :=
  ⟨⟨inDispatch .opening (opWrite 0x0003#16), _, by decide, rfl, by decide⟩,
    ⟨idle (opWrite 0x0003#16), _, by decide, rfl, by decide⟩⟩

theorem witness_OperandsAndCksHaveTheirWriters :
    (∃ s t : State, s.input.rst = false ∧ step s = .next t ∧ t.hdr ≠ s.hdr) ∧
    (∃ s t : State, s.input.rst = false ∧ step s = .next t ∧ t.brd ≠ s.brd) ∧
    (∃ s t : State, s.input.rst = false ∧ step s = .next t ∧ t.lck ≠ s.lck) ∧
    (∃ s t : State, s.input.rst = false ∧ step s = .next t ∧ t.fnc ≠ s.fnc) ∧
    (∃ s t : State, s.input.rst = false ∧ step s = .next t ∧ t.cks ≠ s.cks) :=
  ⟨⟨idle (hostDoes (.write 0x00#5 0xABCD#16)), _, by decide, rfl, by decide⟩,
    ⟨idle (hostDoes (.write 0x01#5 0xABCD#16)), _, by decide, rfl, by decide⟩,
    ⟨idle (hostDoes (.write 0x02#5 0xABCD#16)), _, by decide, rfl, by decide⟩,
    ⟨idle (hostDoes (.write 0x03#5 0xABCD#16)), _, by decide, rfl, by decide⟩,
    ⟨withOperands 0x008A#16 0#16 0#16 0#16 (idle (opWrite 0x0001#16)), _, by decide, rfl, by decide⟩⟩

theorem witness_ReadAfterRegisterWrite :
    (∃ t : State, WritesAtRest (writing 0x03#5 0x1234#16) 0x03#5 0x1234#16 ∧ (0x03#5).toNat ≤ 0x03 ∧
      step (writing 0x03#5 0x1234#16) = .next t) ∧
    (∃ t : State, WritesAtRest (writing 0x10#5 0x1234#16) 0x10#5 0x1234#16 ∧ 0x10 ≤ (0x10#5).toNat ∧
      step (writing 0x10#5 0x1234#16) = .next t) ∧
    (∃ t : State, WritesAtRest (writing 0x17#5 0x1234#16) 0x17#5 0x1234#16 ∧ (0x17#5).toNat ≤ 0x17 ∧
      step (writing 0x17#5 0x1234#16) = .next t) :=
  ⟨⟨_, writing_writes _ _, by decide, rfl⟩, ⟨_, writing_writes _ _, by decide, rfl⟩, ⟨_, writing_writes _ _, by decide, rfl⟩⟩

theorem witness_RegisterMapReads :
    (0x0D ≤ (0x0D#5).toNat ∧ (0x0F#5).toNat ≤ 0x0F) ∧ (0x16#5).toNat = 0x10 + (6 : Fin 7).val ∧
      (0x1D#5).toNat = 0x18 + (5 : Fin 6).val := by decide

theorem witness_ConfigurationNeverChanges :
    ∃ t : State, RunsTo 2 { State.reset with inputs := [opWrite 0x0003#16, { Input.quiet with rst := true }] } t :=
  ⟨_, _, rfl, _, rfl, rfl⟩

/-- Opening, and leaving an outcome state. -/
theorem success_inv : CoreInv { inDispatch .success Input.quiet with result := { tag := .success, err := .none, lastOp := 5#4 } } := by
  refine ⟨?_, ?_, ?_, ?_, ?_, ?_, ?_, ?_, ?_, ?_, ?_⟩ <;> decide
theorem opening_inv : CoreInv { inDispatch .opening { Input.quiet with openRsp := .ok } with conn := false } := by
  refine ⟨?_, ?_, ?_, ?_, ?_, ?_, ?_, ?_, ?_, ?_, ?_⟩ <;> decide
theorem witness_ConnectionClosedThroughCloseReq :
    (∃ s t : State, CoreInv s ∧ s.input.rst = false ∧ step s = .next t ∧ s.conn = false ∧ t.conn = true) ∧
    (∃ s t : State, CoreInv s ∧ s.input.rst = false ∧ step s = .next t ∧ s.conn = true ∧ (outputs s).closeReq = true) :=
  ⟨⟨_, _, opening_inv, by decide, rfl, rfl, rfl⟩, ⟨_, _, success_inv, by decide, rfl, rfl, by decide⟩⟩

/-- Two states of one dispatch that differ in operands, `CKS`, `HZ`, `ILL` and the stale timer. -/
theorem witness_DispatchDependsOnItsOwnStateOnly :
    ∃ s s' t : State, s.busy = true ∧ SameDispatch s s' ∧ step s = .next t ∧ s ≠ s' :=
  ⟨inDispatch .opening { Input.quiet with openRsp := .ok },
    { withOperands 1#16 2#16 3#16 4#16 (inDispatch .opening { Input.quiet with openRsp := .ok }) with
      cks := 5#8, hz := true, ill := true, tmr := 6#6 },
    _, by decide, by constructor <;> decide, rfl, by decide⟩

theorem witness_SendForgetsTheEarlierExchange :
    ∃ s s' t t' : State, s.busy = false ∧ s'.busy = false ∧ s.txf = s'.txf ∧ s.txv = true ∧ s'.txv = true ∧ s.conn = s'.conn ∧
      s.cfg = s'.cfg ∧ s.inputs = s'.inputs ∧ s.clock = s'.clock ∧ (3#4).toNat ≤ 3 ∧
      exec (.send 0xFF#8 3#4) s = .next t ∧ exec (.send 0xFF#8 3#4) s' = .next t' ∧ s ≠ s' :=
  ⟨{ inDispatch .idle Input.quiet with conn := false },
    { inDispatch .closed Input.quiet with conn := false, rspLen := 5#4, istat := .locked, dct := 2#4, dport := 5#8, hz := true },
    _, _, by decide, by decide, by decide, by decide, by decide, by decide, by decide, by decide, by decide, by decide, rfl, rfl,
    by decide⟩

/-- An input with a tick and nothing else. -/
def tickInput : Input := { Input.quiet with tick := true }

/-- A dispatch in READING with the window `t` and the inputs `l`. -/
def readingTape (t : BitVec 6) (l : List Input) : State := { inDispatch .reading Input.quiet with tmr := t, inputs := l }

/-- A short window: two ticks leave it open, three end it. -/
theorem witness_WindowEndsAtItsLastTickExactly :
    (∃ (s : State) (l : List Input), s.ds = .reading ∧ s.inputs = l ∧ silent l ∧ tickCount l < s.tmr.toNat) ∧
    (∃ (s : State) (l k : List Input) (i : Input), s.ds = .reading ∧ s.inputs = l ∧ silent l ∧ l = k ++ [i] ∧ i.tick = true ∧
      tickCount l = s.tmr.toNat) :=
  ⟨⟨readingTape 3#6 [tickInput, Input.quiet, tickInput], _, rfl, rfl, by unfold silent; decide, by decide⟩,
    ⟨readingTape 3#6 [tickInput, tickInput, tickInput], _, [tickInput, tickInput], tickInput, rfl, rfl, by unfold silent; decide, rfl,
      rfl, by decide⟩⟩

/-- The five records of a short reply, three of them with a tick, the last among them. -/
def replyTape : List Input :=
  [{ Input.quiet with rx := .byte 0x8A#8 }, { tickInput with rx := .byte 0x01#8 }, { tickInput with rx := .byte 0x05#8 },
   { Input.quiet with rx := .byte 0x00#8 }, { tickInput with rx := .byte 0x8E#8 }]

/-- Two ticks of a window of three before the last byte, and the third, which would expire it, with that byte. -/
theorem witness_ReplyBytesGiveSuccessAtTheLast :
    ∃ (s : State) (l : List Input) (bs : List Byte), s.ds = .reading ∧ s.rxcnt = 0#3 ∧ s.inputs = l ∧ noReset l ∧
      l.map (fun i => i.rx) = bs.map RxIn.byte ∧ bs.length = explen s.dct ∧ tickCount l.dropLast < s.tmr.toNat ∧
      tickCount l = s.tmr.toNat :=
  ⟨readingTape 3#6 replyTape, replyTape, [0x8A#8, 0x01#8, 0x05#8, 0x00#8, 0x8E#8], rfl, rfl, rfl, by unfold noReset; decide, rfl,
    by decide, by decide, by decide⟩

/-- Open answered, write answered, forty ticks, one step more. -/
def answeredTape : List Input :=
  [{ Input.quiet with openRsp := .ok }] ++ [sentInput] ++ List.replicate 40 { Input.quiet with tick := true } ++ [Input.quiet]

theorem answered_inv : CoreInv { inDispatch .opening Input.quiet with conn := false, inputs := answeredTape } := by
  refine ⟨?_, ?_, ?_, ?_, ?_, ?_, ?_, ?_, ?_, ?_, ?_⟩ <;> decide
theorem witness_EveryAnsweredDispatchEnds :
    ∃ (s : State) (opens writes ticks : List Input) (last : Input), CoreInv s ∧ s.busy = true ∧
      s.inputs = opens ++ writes ++ ticks ++ [last] ∧ hostQuiet s.inputs ∧ (∃ i ∈ opens, i.openRsp ≠ .none) ∧
      (∃ i ∈ writes, i.txRsp ≠ .none) ∧ 40 ≤ tickCount ticks ∧ s.ds.inExchange = true :=
  ⟨{ inDispatch .opening Input.quiet with conn := false, inputs := answeredTape }, [{ Input.quiet with openRsp := .ok }], [sentInput],
    List.replicate 40 { Input.quiet with tick := true }, Input.quiet, answered_inv, by decide, rfl, by unfold hostQuiet; decide,
    by decide, by decide, by decide, by decide⟩

theorem witness_ChecksumIgnoresOrder : ([0x8A#8, 0x01#8, 0x05#8, 0x11#8] : List Byte).Perm [0x8A#8, 0x01#8, 0x11#8, 0x05#8] := by decide
theorem witness_ChecksumReapplication : (0x9F#8 : Byte) = cks8 0x8A#8 0x01#8 0x11#8 0x05#8 := by decide

end Sys2Proof.Tests
end

section
/-! How `bin8` renders a byte: its length and each of its characters (00_scope R10, 42_response_decoder R145). -/

namespace Sys2Proof.Machine

@[simp] theorem length_bin8 (b : Byte) : (bin8 b).length = 8 := by
  simp [bin8]

/-- The bit numbers `bin8` reads count down from 7: the one at position `k` is `7 - k`. -/
theorem bin8_bitNumbers_getElem? (k : Fin 8) : [7, 6, 5, 4, 3, 2, 1, 0][k.val]? = some (7 - k.val) := by
  decide +revert

theorem bin8_getElem? (b : Byte) (k : Fin 8) :
    (bin8 b)[k.val]? = some (if b.getLsbD (7 - k.val) then '1' else '0') := by
  rw [bin8, List.getElem?_map, bin8_bitNumbers_getElem?, Option.map_some]

/-- Settles O59: the length, and the character at each position, are the two lemmas about `bin8`. -/
theorem bin8RendersMostSignificantFirst : Obligations.Bin8RendersMostSignificantFirst :=
  fun b => ⟨length_bin8 b, bin8_getElem? b⟩

end Sys2Proof.Machine
end

section
/-! What a host reads at each register number, and the fields of the words `STATUS` and `RESULT` (10_state R27, R28, R39). -/

namespace Sys2Proof.Machine

/-- `BUSY` is 0 in IDLE and CLOSED alone (10_state R31). -/
theorem State.busy_eq_decide (s : State) : s.busy = decide (s.ds ≠ .idle ∧ s.ds ≠ .closed) := by
  unfold State.busy
  cases s.ds <;> rfl

theorem statusWord_ds (s : State) : (statusWord s).extractLsb' 0 4 = s.ds.code :=
  BitVec.extractLsb'_append_eq_right

theorem statusWord_rxcnt (s : State) : (statusWord s).extractLsb' 8 3 = s.rxcnt := by
  unfold statusWord
  repeat rw [BitVec.extractLsb'_append_eq_of_le (by decide)]
  exact BitVec.extractLsb'_append_eq_right

/-- The flags of `STATUS`. -/
theorem statusWord_flags (s : State) :
    (statusWord s).getLsbD 4 = s.busy ∧ (statusWord s).getLsbD 5 = s.conn ∧ (statusWord s).getLsbD 6 = s.txv ∧
    (statusWord s).getLsbD 12 = s.hz ∧ (statusWord s).getLsbD 13 = s.ill := by
  unfold statusWord
  repeat rw [BitVec.getLsbD_append]
  simp

/-- The bits of `STATUS` that belong to no field. -/
theorem statusWord_zeros (s : State) :
    (statusWord s).getLsbD 7 = false ∧ (statusWord s).getLsbD 11 = false ∧ (statusWord s).getLsbD 14 = false ∧
    (statusWord s).getLsbD 15 = false := by
  unfold statusWord
  repeat rw [BitVec.getLsbD_append]
  simp

/-- Settles O26, field by field. -/
theorem statusFieldsShowState : Obligations.StatusFieldsShowState := by
  intro s
  obtain ⟨hbusy, hconn, htxv, hhz, hill⟩ := statusWord_flags s
  obtain ⟨h7, h11, h14, h15⟩ := statusWord_zeros s
  have hds : (statusWord s).extractLsb' 0 4 = s.ds.code := statusWord_ds s
  exact ⟨by cases h : s.ds <;> rw [hds, h] <;> rfl, hbusy.trans s.busy_eq_decide, hconn, htxv, h7, statusWord_rxcnt s, h11,
    hhz, hill, h14, h15⟩

theorem Result.word_tag (r : Result) : r.word.extractLsb' 0 2 = r.tag.code :=
  BitVec.extractLsb'_append_eq_right

theorem Result.word_err (r : Result) : r.word.extractLsb' 2 3 = r.err.code := by
  unfold Result.word
  rw [BitVec.extractLsb'_append_eq_of_le (by decide)]
  exact BitVec.extractLsb'_append_eq_right

theorem Result.word_lastOp (r : Result) : r.word.extractLsb' 8 4 = r.lastOp := by
  unfold Result.word
  repeat rw [BitVec.extractLsb'_append_eq_of_le (by decide)]
  exact BitVec.extractLsb'_append_eq_right

/-- The bits of `RESULT` between `ERR` and `LASTOP`. -/
theorem Result.word_zeros_middle (r : Result) : r.word.extractLsb' 5 3 = 0#3 := by
  unfold Result.word
  repeat rw [BitVec.extractLsb'_append_eq_of_le (by decide)]
  exact BitVec.extractLsb'_append_eq_right

/-- The bits of `RESULT` above `LASTOP`. -/
theorem Result.word_zeros_top (r : Result) : r.word.extractLsb' 12 4 = 0#4 := by
  unfold Result.word
  repeat rw [BitVec.extractLsb'_append_eq_of_le (by decide)]
  rfl

theorem hostRead_rsp {a : RegNum} {k : Fin 7} (h : a.toNat = 0x10 + k.val) (s : State) : hostRead s a = s.rsp[k] := by
  unfold hostRead
  rw [h]
  fin_cases k <;> rfl

theorem hostRead_dg {a : RegNum} {k : Fin 6} (h : a.toNat = 0x18 + k.val) (s : State) : hostRead s a = zext16 s.dg[k] := by
  unfold hostRead
  rw [h]
  fin_cases k <;> rfl

/-- The unassigned numbers read 0 (10_state R40). -/
theorem hostRead_unassigned {a : RegNum} (hlo : 0x0D ≤ a.toNat) (hhi : a.toNat ≤ 0x0F) (s : State) : hostRead s a = 0#16 := by
  unfold hostRead
  split
  case h_29 => rfl
  all_goals omega

/-- Settles O49, number by number. -/
theorem registerMapReads : Obligations.RegisterMapReads := by
  intro s
  have htag : (hostRead s 0x06#5).extractLsb' 0 2 = s.result.tag.code := s.result.word_tag
  have herr : (hostRead s 0x06#5).extractLsb' 2 3 = s.result.err.code := s.result.word_err
  have hclass : hostRead s 0x1F#5 = s.istat.code.setWidth 16 := rfl
  exact ⟨rfl, rfl, rfl, rfl, hostRead_op s, rfl, by cases h : s.result.tag <;> rw [htag, h] <;> rfl,
    by cases h : s.result.err <;> rw [herr, h] <;> rfl, s.result.word_zeros_middle, s.result.word_lastOp,
    s.result.word_zeros_top, rfl, rfl, rfl, rfl, rfl, rfl, fun _ hlo hhi => hostRead_unassigned hlo hhi s,
    fun _ _ h => hostRead_rsp h s, rfl, fun _ _ h => hostRead_dg h s, rfl,
    by cases h : s.istat <;> rw [hclass, h] <;> rfl⟩

end Sys2Proof.Machine
end

section
/-! What a host write to a register number does (20_memory R64, R66), and what a host then reads (10_state R39). -/

namespace Sys2Proof.Machine

/-- The register numbers a host can write, `OP` apart (10_state R39). -/
theorem writable_cases {a : RegNum} (h : a.toNat ≤ 0x03 ∨ (0x10 ≤ a.toNat ∧ a.toNat ≤ 0x17)) :
    a = 0x00#5 ∨ a = 0x01#5 ∨ a = 0x02#5 ∨ a = 0x03#5 ∨ (∃ k : Fin 7, a.toNat = 0x10 + k.val) ∨ a = 0x17#5 := by
  by_cases hk : 0x10 ≤ a.toNat ∧ a.toNat ≤ 0x16
  · exact .inr (.inr (.inr (.inr (.inl ⟨⟨a.toNat - 0x10, by omega⟩, by simp; omega⟩))))
  · bv_omega

theorem storeRegister_rsp {a : RegNum} {k : Fin 7} (h : a.toNat = 0x10 + k.val) (d : HostWord) (s : State) :
    storeRegister a d s = s.withRsp (s.rsp.set k d) := by
  unfold storeRegister
  rw [h]
  fin_cases k <;> rfl

/-- A read-only or unassigned number stores nothing (20_memory R66). -/
theorem storeRegister_unwritable {a : RegNum}
    (h : (0x05 ≤ a.toNat ∧ a.toNat ≤ 0x0F) ∨ (0x18 ≤ a.toNat ∧ a.toNat ≤ 0x1F)) (d : HostWord) (s : State) :
    storeRegister a d s = s.withIll := by
  unfold storeRegister
  split
  case h_13 => rfl
  all_goals omega

/-- What is not `OP` and not writable is read-only or unassigned. -/
theorem unwritable_of_not_writable {a : RegNum} (hop : a ≠ opRegister)
    (h : ¬ (a.toNat ≤ 0x03 ∨ (0x10 ≤ a.toNat ∧ a.toNat ≤ 0x17))) :
    (0x05 ≤ a.toNat ∧ a.toNat ≤ 0x0F) ∨ (0x18 ≤ a.toNat ∧ a.toNat ≤ 0x1F) := by
  have hne : a.toNat ≠ 0x04 := fun he => hop (BitVec.eq_of_toNat_eq he)
  omega

@[simp] theorem hostRead_advance (s : State) (b : RegNum) : hostRead s.advance b = hostRead s b := rfl

theorem hostRead_withHdr {b : RegNum} (h : b ≠ 0x00#5) (d : HostWord) (s : State) :
    hostRead (s.withHdr d) b = hostRead s b := by
  unfold hostRead
  split
  case h_1 hb => exact absurd (BitVec.eq_of_toNat_eq hb) h
  all_goals rfl

theorem hostRead_withBrd {b : RegNum} (h : b ≠ 0x01#5) (d : HostWord) (s : State) :
    hostRead (s.withBrd d) b = hostRead s b := by
  unfold hostRead
  split
  case h_2 hb => exact absurd (BitVec.eq_of_toNat_eq hb) h
  all_goals rfl

theorem hostRead_withLck {b : RegNum} (h : b ≠ 0x02#5) (d : HostWord) (s : State) :
    hostRead (s.withLck d) b = hostRead s b := by
  unfold hostRead
  split
  case h_3 hb => exact absurd (BitVec.eq_of_toNat_eq hb) h
  all_goals rfl

theorem hostRead_withFnc {b : RegNum} (h : b ≠ 0x03#5) (d : HostWord) (s : State) :
    hostRead (s.withFnc d) b = hostRead s b := by
  unfold hostRead
  split
  case h_4 hb => exact absurd (BitVec.eq_of_toNat_eq hb) h
  all_goals rfl

theorem hostRead_withRspLen {b : RegNum} (h : b ≠ 0x17#5) (n : BitVec 4) (s : State) :
    hostRead (s.withRspLen n) b = hostRead s b := by
  unfold hostRead
  split
  case h_20 hb => exact absurd (BitVec.eq_of_toNat_eq hb) h
  all_goals rfl

/-- Outside the numbers of `RSP` the response buffer is not read. -/
theorem hostRead_withRsp {b : RegNum} (h : ∀ j : Fin 7, b.toNat ≠ 0x10 + j.val) (r : Vector HostWord 7) (s : State) :
    hostRead (s.withRsp r) b = hostRead s b := by
  unfold hostRead
  split
  case h_13 hb => exact absurd hb (h 0)
  case h_14 hb => exact absurd hb (h 1)
  case h_15 hb => exact absurd hb (h 2)
  case h_16 hb => exact absurd hb (h 3)
  case h_17 hb => exact absurd hb (h 4)
  case h_18 hb => exact absurd hb (h 5)
  case h_19 hb => exact absurd hb (h 6)
  all_goals rfl

/-- Setting `RSP[k]` shows at its own number alone. -/
theorem hostRead_withRsp_set {b : RegNum} {k : Fin 7} (h : b.toNat ≠ 0x10 + k.val) (d : HostWord) (s : State) :
    hostRead (s.withRsp (s.rsp.set k d)) b = hostRead s b := by
  by_cases hj : ∃ j : Fin 7, b.toNat = 0x10 + j.val
  · obtain ⟨j, hj⟩ := hj
    rw [hostRead_rsp hj, hostRead_rsp hj]
    exact Vector.getElem_set_ne k.isLt j.isLt (by omega)
  · exact hostRead_withRsp (not_exists.mp hj) _ s

/-- A host reads at a writable number what a write stored there: the word, of which `RSPLEN` holds four bits. -/
theorem hostRead_storeRegister_same {a : RegNum} (h : a.toNat ≤ 0x03 ∨ (0x10 ≤ a.toNat ∧ a.toNat ≤ 0x17)) (d : HostWord)
    (s : State) :
    hostRead (storeRegister a d s) a = if a = 0x17#5 then (d.extractLsb' 0 4).setWidth 16 else d := by
  rcases writable_cases h with rfl | rfl | rfl | rfl | ⟨k, hk⟩ | rfl
  case inr.inr.inr.inr.inl =>
    have hne : a ≠ 0x17#5 := by bv_omega
    rw [storeRegister_rsp hk, hostRead_rsp hk, if_neg hne]
    exact Vector.getElem_set_self k.isLt
  all_goals rfl

/-- A write to a writable number shows at no other number. -/
theorem hostRead_storeRegister_of_ne {a b : RegNum} (h : a.toNat ≤ 0x03 ∨ (0x10 ≤ a.toNat ∧ a.toNat ≤ 0x17)) (hb : b ≠ a)
    (d : HostWord) (s : State) : hostRead (storeRegister a d s) b = hostRead s b := by
  rcases writable_cases h with rfl | rfl | rfl | rfl | ⟨k, hk⟩ | rfl
  · exact hostRead_withHdr hb d s
  · exact hostRead_withBrd hb d s
  · exact hostRead_withLck hb d s
  · exact hostRead_withFnc hb d s
  · have hne : b.toNat ≠ 0x10 + k.val := fun he => hb (BitVec.eq_of_toNat_eq (he.trans hk.symm))
    rw [storeRegister_rsp hk]
    exact hostRead_withRsp_set hne d s
  · exact hostRead_withRspLen hb _ s

/-- At rest a host write to a number other than `OP` is the whole step. -/
theorem step_of_registerWrite {s : State} {a : RegNum} {d : HostWord} (hr : s.input.rst = false) (hb : s.busy = false)
    (hw : s.input.host = .write a d) (hop : a ≠ opRegister) : step s = .next (storeRegister a d s).advance := by
  rw [step_of_resting hr hb]
  simp [hostPhase, hw, hop, writeRegister, whenResting_of_resting hb]

/-- Settles O48: the step is the register write, which shows at its own number alone. -/
theorem readAfterRegisterWrite : Obligations.ReadAfterRegisterWrite := by
  intro s t a d hr hb hw ha ht
  have hop : a ≠ opRegister := by rintro rfl; revert ha; decide
  rw [step_of_registerWrite hr hb hw hop] at ht
  cases ht
  exact ⟨hostRead_storeRegister_same ha d s, fun b hne => hostRead_storeRegister_of_ne ha hne d s⟩

end Sys2Proof.Machine
end

section
/-! What an operation and a dispatcher transition can change, and what a step that answers a next state is (60_exceptions R211). -/

namespace Sys2Proof.Machine

/-- `s` with all that an operation may write taken from `u`: `CKS`, the frame and response buffers, the decoded views, `RESULT`, `DS`
and the latches of SEND. -/
def State.withOperationOf (s u : State) : State :=
  { s with
    cks := u.cks, txf := u.txf, txv := u.txv, rsp := u.rsp, rspLen := u.rspLen, dg := u.dg, dgn := u.dgn, istat := u.istat
    result := u.result, ds := u.ds, rxcnt := u.rxcnt, dct := u.dct, dport := u.dport }

/-- `s` with all that a transition of the dispatcher may write taken from `t`: the response buffer, `RESULT`, `DS`, `CONN`, `RXCNT` and
`TMR`. -/
def State.withExchangeOf (s t : State) : State :=
  { s with
    rsp := t.rsp, rspLen := t.rspLen, result := t.result, ds := t.ds, conn := t.conn, rxcnt := t.rxcnt, tmr := t.tmr }

/-- Two transitions in a row write no more than one may. -/
theorem exchange_trans {s u t : State} (hu : u = s.withExchangeOf u) (ht : t = u.withExchangeOf t) : t = s.withExchangeOf t :=
  ht.trans (congrArg (fun v => v.withExchangeOf t) hu)

theorem openingStep_exchange (s : State) : openingStep s = s.withExchangeOf (openingStep s) := by
  rcases openingStep_cases s with ⟨_, h⟩ | ⟨_, h⟩ | ⟨_, h⟩ <;> rw [h] <;> rfl

theorem writingStep_exchange (s : State) : writingStep s = s.withExchangeOf (writingStep s) := by
  rcases writingStep_cases s with ⟨_, h⟩ | ⟨_, h⟩ | ⟨_, h⟩ <;> rw [h] <;> rfl

theorem receiveByte_exchange {b : Byte} {s t : State} (h : receiveByte b s = .next t) : t = s.withExchangeOf t := by
  rcases receiveByte_cases b s with ⟨_, _, he⟩ | ⟨_, _, he⟩ | ⟨_, he⟩ <;> rw [he] at h <;> cases h <;> rfl

theorem tickStep_exchange {s t : State} (h : tickStep s = .next t) : t = s.withExchangeOf t := by
  rcases tickStep_cases s with ⟨_, he⟩ | ⟨_, _, _, he⟩ | ⟨_, _, _, he⟩ | ⟨_, _, he⟩ <;> rw [he] at h <;> cases h <;> rfl

theorem readingStep_exchange {s t : State} (h : readingStep s = .next t) : t = s.withExchangeOf t := by
  unfold readingStep at h
  split at h
  · exact tickStep_exchange h
  · cases h
    rfl
  · obtain ⟨u, hu, ht⟩ := andThen_eq_next.mp h
    have hsu := receiveByte_exchange hu
    split at ht
    · exact exchange_trans hsu (tickStep_exchange ht)
    · cases ht
      exact hsu

/-- A transition of the dispatcher leaves the operands, `CKS`, the frame, the decoded views, the latches and the sticky flags. -/
theorem dispatcherPhase_exchange {s t : State} (h : dispatcherPhase s = .next t) : t = s.withExchangeOf t := by
  unfold dispatcherPhase at h
  cases hd : s.ds <;> rw [hd] at h
  case opening => cases h; exact openingStep_exchange s
  case writing => rw [writePhase_eq hd] at h; cases h; exact writingStep_exchange s
  case reading => exact readingStep_exchange h
  all_goals cases h; rfl

/-- A step that begins busy: beside the refusal of a host write, a transition of the dispatcher. -/
theorem step_busy_exchange {s t : State} (hr : s.input.rst = false) (hb : s.busy = true) (h : step s = .next t) :
    t = s.stepped.withExchangeOf t := by
  rw [step_of_busy hr hb] at h
  obtain ⟨u, hu, hut⟩ := andThen_eq_next.mp h
  cases hut
  have hstepped : s.refusing.advance = s.stepped := by simp [State.refusing, State.advance, State.stepped, hb]
  rw [← hstepped]
  exact congrArg State.advance (dispatcherPhase_exchange hu)

/-- What a step that begins at rest can be: no write, an operation, a reserved operation word, or a register write. -/
theorem step_resting_cases {s t : State} (hr : s.input.rst = false) (hb : s.busy = false) (h : step s = .next t) :
    (HostAccess.isWrite s.input.host = false ∧ t = s.advance) ∨
    (∃ d i u, s.input.host = .write opRegister d ∧ decodeOp d = .ok i ∧ exec i s = .next u ∧ t = u.advance) ∨
    (∃ d e, s.input.host = .write opRegister d ∧ decodeOp d = .error e ∧ t = s.withIll.advance) ∨
    (∃ a d, s.input.host = .write a d ∧ a ≠ opRegister ∧ t = (storeRegister a d s).advance) := by
  rw [step_of_resting hr hb] at h
  obtain ⟨u, hu, hut⟩ := andThen_eq_next.mp h
  cases hut
  rcases hostPhase_of_resting hb with ⟨hw, hp⟩ | ⟨d, i, hw, hd, hp⟩ | ⟨d, e, hw, hd, hp⟩ | ⟨a, d, hw, ha, hp⟩ <;> rw [hp] at hu
  · cases hu
    exact .inl ⟨hw, rfl⟩
  · exact .inr (.inl ⟨d, i, u, hw, hd, hu, rfl⟩)
  · cases hu
    exact .inr (.inr (.inl ⟨d, e, hw, hd, rfl⟩))
  · cases hu
    exact .inr (.inr (.inr ⟨a, d, hw, ha, rfl⟩))

/-- At rest a host write that answers has its effect. -/
theorem eq_effect_of_resting {s u : State} (hb : s.busy = false) (effect : State → State)
    (h : (.next (whenResting s effect) : Out) = .next u) : u = effect s := by
  rw [whenResting_of_resting hb] at h
  cases h
  rfl

/-- What the operation of a word does at rest, by the word's field OPC. -/
theorem exec_resting_cases {d : HostWord} {i : Instr} {s u : State} (hb : s.busy = false) (hd : decodeOp d = .ok i)
    (h : exec i s = .next u) :
    (opcField d = 1#4 ∧ u = cksumEffect s) ∨ (opcField d = 2#4 ∧ u = buildEffect s) ∨ (opcField d = 3#4 ∧ u = tpluaEffect s) ∨
    (opcField d = 4#4 ∧ u = tplqaEffect s) ∨ (opcField d = 5#4 ∧ u = sendEffect (portField d) (ctField d) s) ∨
    (opcField d = 6#4 ∧ u = decodeEffect s) ∨ (opcField d = 7#4 ∧ u = istatEffect (ctField d) s) := by
  refine (decodeOp_cases hd).imp ?_ <| .imp ?_ <| .imp ?_ <| .imp ?_ <| .imp ?_ <| .imp ?_ ?_ <;>
    rintro ⟨ho, rfl⟩ <;> exact ⟨BitVec.eq_of_toNat_eq ho, eq_effect_of_resting hb _ h⟩

theorem cksumEffect_operation (s : State) : cksumEffect s = s.withOperationOf (cksumEffect s) := by
  unfold cksumEffect
  split <;> rfl

theorem buildEffect_operation (s : State) : buildEffect s = s.withOperationOf (buildEffect s) := by
  unfold buildEffect
  split <;> rfl

theorem sendEffect_operation (port : Byte) (ct : BitVec 4) (s : State) :
    sendEffect port ct s = s.withOperationOf (sendEffect port ct s) := by
  unfold sendEffect
  split
  · rfl
  · split <;> rfl

theorem decodeEffect_operation (s : State) : decodeEffect s = s.withOperationOf (decodeEffect s) := by
  unfold decodeEffect
  dsimp only
  split
  · rfl
  · split <;> rfl

theorem istatEffect_operation (ct : BitVec 4) (s : State) : istatEffect ct s = s.withOperationOf (istatEffect ct s) := by
  unfold istatEffect
  split
  · rfl
  · split <;> rfl

/-- No operation writes an operand register, `CONN`, `TMR` or a sticky flag. -/
theorem exec_operation {d : HostWord} {i : Instr} {s u : State} (hb : s.busy = false) (hd : decodeOp d = .ok i)
    (h : exec i s = .next u) : u = s.withOperationOf u := by
  rcases exec_resting_cases hb hd h with ⟨_, rfl⟩ | ⟨_, rfl⟩ | ⟨_, rfl⟩ | ⟨_, rfl⟩ | ⟨_, rfl⟩ | ⟨_, rfl⟩ | ⟨_, rfl⟩
  · exact cksumEffect_operation s
  · exact buildEffect_operation s
  · rfl
  · rfl
  · exact sendEffect_operation _ _ s
  · exact decodeEffect_operation s
  · exact istatEffect_operation _ s

end Sys2Proof.Machine
end

section
/-! The writers of the sticky flags, of the operand registers and of `CKS` (10_state R21, R22, R36, R37). -/

namespace Sys2Proof.Machine

theorem HostAccess.isWrite_iff {h : Sys2Proof.HostAccess} : HostAccess.isWrite h = true ↔ ∃ a d, h = .write a d := by
  cases h <;> simp [HostAccess.isWrite]

/-- The decoder rejects reserved operation codes alone (30_encoding R87). -/
theorem reserved_of_decodeOp_error {d : HostWord} {e : DecodeError} (h : decodeOp d = .error e) :
    opcField d = 0#4 ∨ 8 ≤ (opcField d).toNat := by
  unfold decodeOp at h
  split at h
  case h_8 =>
    simp only [imp_false] at *
    bv_omega
  all_goals cases h

theorem not_reserved_of_decodeOp_ok {d : HostWord} {i : Instr} (h : decodeOp d = .ok i) :
    ¬ (opcField d = 0#4 ∨ 8 ≤ (opcField d).toNat) := by
  have hopc : 1 ≤ (opcField d).toNat ∧ (opcField d).toNat ≤ 7 := by
    rcases decodeOp_cases h with ⟨ho, _⟩ | ⟨ho, _⟩ | ⟨ho, _⟩ | ⟨ho, _⟩ | ⟨ho, _⟩ | ⟨ho, _⟩ | ⟨ho, _⟩ <;> omega
  bv_omega

/-- What sets `ILL` at rest, of a write of the word `d` to the number `a` (10_state R37): a reserved operation code in `OP`, or a
read-only or unassigned number. -/
def IllegalWrite (a : RegNum) (d : HostWord) : Prop :=
  (a = opRegister ∧ (opcField d = 0#4 ∨ 8 ≤ (opcField d).toNat)) ∨
  (0x05 ≤ a.toNat ∧ a.toNat ≤ 0x0F) ∨ (0x18 ≤ a.toNat ∧ a.toNat ≤ 0x1F)

theorem illegalWrite_op {d : HostWord} : IllegalWrite opRegister d ↔ opcField d = 0#4 ∨ 8 ≤ (opcField d).toNat := by
  simp [IllegalWrite, opRegister]

theorem storeRegister_hz (a : RegNum) (d : HostWord) (s : State) : (storeRegister a d s).hz = s.hz := by
  rcases storeRegister_cases a d s with h | h | h | h | ⟨_, h⟩ | h | h <;> rw [h] <;> rfl

theorem storeRegister_cks (a : RegNum) (d : HostWord) (s : State) : (storeRegister a d s).cks = s.cks := by
  rcases storeRegister_cases a d s with h | h | h | h | ⟨_, h⟩ | h | h <;> rw [h] <;> rfl

theorem storeRegister_ill_of_writable {a : RegNum} (h : a.toNat ≤ 0x03 ∨ (0x10 ≤ a.toNat ∧ a.toNat ≤ 0x17)) (d : HostWord)
    (s : State) : (storeRegister a d s).ill = s.ill := by
  rcases writable_cases h with rfl | rfl | rfl | rfl | ⟨_, hk⟩ | rfl
  case inr.inr.inr.inr.inl => rw [storeRegister_rsp hk]; rfl
  all_goals rfl

/-- A register write leaves `ILL` set where it was set or the number is read-only or unassigned. -/
theorem storeRegister_ill {a : RegNum} (hop : a ≠ opRegister) (d : HostWord) (s : State) :
    (storeRegister a d s).ill = true ↔ s.ill = true ∨ IllegalWrite a d := by
  by_cases hw : a.toNat ≤ 0x03 ∨ (0x10 ≤ a.toNat ∧ a.toNat ≤ 0x17)
  · have hlegal : ¬ IllegalWrite a d := by
      rintro (⟨ho, _⟩ | hu)
      · exact hop ho
      · omega
    simp [storeRegister_ill_of_writable hw, hlegal]
  · have hu := unwritable_of_not_writable hop hw
    simp [storeRegister_unwritable hu, show IllegalWrite a d from .inr hu]

/-- `HZ` records the refused host writes, and no step without reset clears it (10_state R36). -/
theorem step_hz {s t : State} (hr : s.input.rst = false) (h : step s = .next t) : t.hz = s.stepped.hz := by
  cases hb : s.busy with
  | true => exact (congrArg State.hz (step_busy_exchange hr hb h)).trans rfl
  | false =>
    have hkept : s.stepped.hz = s.hz := by simp [State.stepped, hb]
    rw [hkept]
    rcases step_resting_cases hr hb h with ⟨_, rfl⟩ | ⟨d, i, u, _, hd, hu, rfl⟩ | ⟨_, _, _, _, rfl⟩ | ⟨a, d, _, _, rfl⟩
    · rfl
    · exact (congrArg State.hz (exec_operation hb hd hu)).trans rfl
    · rfl
    · exact storeRegister_hz a d s

/-- `ILL` records the illegal writes at rest, and no step without reset clears it (10_state R37). -/
theorem step_ill {s t : State} (hr : s.input.rst = false) (h : step s = .next t) :
    t.ill = true ↔ s.ill = true ∨ (s.busy = false ∧ ∃ a d, s.input.host = .write a d ∧ IllegalWrite a d) := by
  cases hb : s.busy with
  | true =>
    have hkept : t.ill = s.ill := (congrArg State.ill (step_busy_exchange hr hb h)).trans rfl
    simp [hkept]
  | false =>
    rcases step_resting_cases hr hb h with ⟨hw, rfl⟩ | ⟨d, i, u, hw, hd, hu, rfl⟩ | ⟨d, e, hw, hd, rfl⟩ | ⟨a, d, hw, ha, rfl⟩
    · have hnone : ∀ a d, s.input.host ≠ .write a d := fun a d he => by simp [he, HostAccess.isWrite] at hw
      simp [hnone]
    · have hkept : u.ill = s.ill := (congrArg State.ill (exec_operation hb hd hu)).trans rfl
      simp [hw, hkept, illegalWrite_op, not_reserved_of_decodeOp_ok hd]
    · simp [hw, illegalWrite_op, reserved_of_decodeOp_error hd]
    · simp [hw, storeRegister_ill ha]

/-- Settles O45: reset clears both flags, and `step_hz` and `step_ill` say what sets them. -/
theorem stickyFlagsSetAndKept : Obligations.StickyFlagsSetAndKept := by
  intro s t h
  refine ⟨fun hr => ?_, fun hr => ⟨?_, step_ill hr h⟩⟩
  · rw [step_of_rst hr] at h
    cases h
    exact ⟨rfl, rfl⟩
  · rw [step_hz hr h, ← HostAccess.isWrite_iff]
    simp [State.stepped]

/-- The operand registers are read at numbers 0 to 3, and nothing else is read there. -/
theorem hostRead_operand_congr {s t : State} {k : RegNum} (hk : k.toNat ≤ 0x03) (h0 : t.hdr = s.hdr) (h1 : t.brd = s.brd)
    (h2 : t.lck = s.lck) (h3 : t.fnc = s.fnc) : hostRead t k = hostRead s k := by
  obtain rfl | rfl | rfl | rfl : k = 0x00#5 ∨ k = 0x01#5 ∨ k = 0x02#5 ∨ k = 0x03#5 := by bv_omega
  · exact h0
  · exact h1
  · exact h2
  · exact h3

/-- An operand register changes only at rest, by a host write of its new value to its own number (10_state R21). -/
theorem step_operand {s t : State} (hr : s.input.rst = false) (h : step s = .next t) {k : RegNum} (hk : k.toNat ≤ 0x03)
    (hne : hostRead t k ≠ hostRead s k) : s.busy = false ∧ s.input.host = .write k (hostRead t k) := by
  cases hb : s.busy with
  | true =>
    have hkept : hostRead (s.stepped.withExchangeOf t) k = hostRead s k := hostRead_operand_congr hk rfl rfl rfl rfl
    exact absurd ((congrArg (hostRead · k) (step_busy_exchange hr hb h)).trans hkept) hne
  | false =>
    refine ⟨rfl, ?_⟩
    rcases step_resting_cases hr hb h with ⟨_, rfl⟩ | ⟨d, i, u, _, hd, hu, rfl⟩ | ⟨_, _, _, _, rfl⟩ | ⟨a, d, hw, ha, rfl⟩
    · exact absurd rfl hne
    · have hkept : hostRead (s.withOperationOf u) k = hostRead s k := hostRead_operand_congr hk rfl rfl rfl rfl
      exact absurd ((congrArg (hostRead · k) (exec_operation hb hd hu)).trans hkept) hne
    · exact (hne (hostRead_operand_congr hk rfl rfl rfl rfl)).elim
    · rw [hostRead_advance] at hne ⊢
      by_cases hwr : a.toNat ≤ 0x03 ∨ (0x10 ≤ a.toNat ∧ a.toNat ≤ 0x17)
      · obtain rfl : k = a := by
          by_contra hka
          exact hne (hostRead_storeRegister_of_ne hwr hka d s)
        have hlen : k ≠ 0x17#5 := by bv_omega
        rw [hw, hostRead_storeRegister_same hwr, if_neg hlen]
      · rw [storeRegister_unwritable (unwritable_of_not_writable ha hwr)] at hne
        exact (hne (hostRead_operand_congr hk rfl rfl rfl rfl)).elim

theorem cksumEffect_cks {s : State} (h : (cksumEffect s).cks ≠ s.cks) : (cksumEffect s).result.tag = .success := by
  unfold cksumEffect at h ⊢
  split
  · rfl
  · next hbytes => exact absurd (by rw [if_neg hbytes]; rfl) h

theorem buildEffect_cks {s : State} (h : (buildEffect s).cks ≠ s.cks) : (buildEffect s).result.tag = .success := by
  unfold buildEffect at h ⊢
  split
  · rfl
  · next hbytes => exact absurd (by rw [if_neg hbytes]; rfl) h

theorem sendEffect_cks (port : Byte) (ct : BitVec 4) (s : State) : (sendEffect port ct s).cks = s.cks := by
  unfold sendEffect
  split
  · rfl
  · split <;> rfl

theorem decodeEffect_cks (s : State) : (decodeEffect s).cks = s.cks := by
  unfold decodeEffect
  dsimp only
  split
  · rfl
  · split <;> rfl

theorem istatEffect_cks (ct : BitVec 4) (s : State) : (istatEffect ct s).cks = s.cks := by
  unfold istatEffect
  split
  · rfl
  · split <;> rfl

/-- Of the operations, CKSUM and BUILD alone write `CKS`, and only when they succeed (10_state R22). -/
theorem exec_cks {d : HostWord} {i : Instr} {s u : State} (hb : s.busy = false) (hd : decodeOp d = .ok i)
    (h : exec i s = .next u) (hne : u.cks ≠ s.cks) : u.result.tag = .success ∧ (opcField d = 1#4 ∨ opcField d = 2#4) := by
  rcases exec_resting_cases hb hd h with ⟨ho, rfl⟩ | ⟨ho, rfl⟩ | ⟨_, rfl⟩ | ⟨_, rfl⟩ | ⟨_, rfl⟩ | ⟨_, rfl⟩ | ⟨_, rfl⟩
  · exact ⟨cksumEffect_cks hne, .inl ho⟩
  · exact ⟨buildEffect_cks hne, .inr ho⟩
  · exact absurd rfl hne
  · exact absurd rfl hne
  · exact absurd (sendEffect_cks _ _ s) hne
  · exact absurd (decodeEffect_cks s) hne
  · exact absurd (istatEffect_cks _ s) hne

/-- `CKS` changes only at rest, by a CKSUM or BUILD that succeeds (10_state R22). -/
theorem step_cks {s t : State} (hr : s.input.rst = false) (h : step s = .next t) (hne : t.cks ≠ s.cks) :
    s.busy = false ∧ t.result.tag = .success ∧ ∃ d : HostWord, s.input.host = .write opRegister d ∧
      (opcField d = 1#4 ∨ opcField d = 2#4) := by
  cases hb : s.busy with
  | true => exact absurd (congrArg State.cks (step_busy_exchange hr hb h)) hne
  | false =>
    refine ⟨rfl, ?_⟩
    rcases step_resting_cases hr hb h with ⟨_, rfl⟩ | ⟨d, i, u, hw, hd, hu, rfl⟩ | ⟨_, _, _, _, rfl⟩ | ⟨a, d, _, _, rfl⟩
    · exact absurd rfl hne
    · obtain ⟨htag, hopc⟩ := exec_cks hb hd hu hne
      exact ⟨htag, d, hw, hopc⟩
    · exact absurd rfl hne
    · exact absurd (storeRegister_cks a d s) hne

/-- Settles O47: an operand register is what a host reads at its number, so one lemma serves the four. -/
theorem operandsAndCksHaveTheirWriters : Obligations.OperandsAndCksHaveTheirWriters := by
  intro s t hr h
  exact ⟨step_operand hr h (k := 0x00#5) (by decide), step_operand hr h (k := 0x01#5) (by decide),
    step_operand hr h (k := 0x02#5) (by decide), step_operand hr h (k := 0x03#5) (by decide), step_cks hr h⟩

end Sys2Proof.Machine
end

section
/-! What the host's access contributes to a step: nothing for a read, `HZ` for a write while busy (20_memory R62, R63,
70_reset_and_hazards R240). The dispatcher's transitions neither see the access nor touch `HZ`. -/

namespace Sys2Proof.Machine

/-- Outcomes in sequence associate. -/
theorem andThen_assoc (o : Out) (f g : State → Out) : andThen (andThen o f) g = andThen o fun t => andThen (f t) g := by
  cases o <;> rfl

/-- Going on with the next state as it is. -/
theorem andThen_next_right (o : Out) : andThen o (fun t => .next t) = o := by
  cases o <;> rfl

/-- `s` with the host access `access` in the record it samples, and `HZ` set where `refused`. -/
def State.withAccess (access : HostAccess) (refused : Bool) (s : State) : State :=
  { s with hz := s.hz || refused, inputs := s.inputs.modifyHead fun i => { i with host := access } }

/-- The record sampled under another host access differs in the access alone, or not at all where it is a free one. -/
theorem State.withAccess_input (access : HostAccess) (refused : Bool) (s : State) :
    (s.withAccess access refused).input = { s.input with host := (s.withAccess access refused).input.host } := by
  unfold State.input
  cases hl : s.inputs <;> simp [State.withAccess, hl]

section
variable (access : HostAccess) (refused : Bool) (s : State)

@[simp] theorem State.withAccess_openRsp : (s.withAccess access refused).input.openRsp = s.input.openRsp := by
  rw [State.withAccess_input]

@[simp] theorem State.withAccess_txRsp : (s.withAccess access refused).input.txRsp = s.input.txRsp := by
  rw [State.withAccess_input]

@[simp] theorem State.withAccess_rx : (s.withAccess access refused).input.rx = s.input.rx := by
  rw [State.withAccess_input]

@[simp] theorem State.withAccess_tick : (s.withAccess access refused).input.tick = s.input.tick := by
  rw [State.withAccess_input]

/-- The used-up record takes its access with it. -/
theorem State.withAccess_advance :
    (s.withAccess access refused).advance = { s.advance with hz := s.advance.hz || refused } := by
  simp [State.withAccess, State.advance]

theorem openingStep_withAccess : openingStep (s.withAccess access refused) = (openingStep s).withAccess access refused := by
  unfold openingStep
  rw [State.withAccess_openRsp]
  cases s.input.openRsp <;> rfl

theorem writingStep_withAccess : writingStep (s.withAccess access refused) = (writingStep s).withAccess access refused := by
  unfold writingStep
  rw [State.withAccess_txRsp]
  cases s.input.txRsp <;> rfl

theorem receiveByte_withAccess (b : Byte) :
    receiveByte b (s.withAccess access refused) = andThen (receiveByte b s) fun t => .next (t.withAccess access refused) := by
  rcases receiveByte_cases b s with ⟨hlt, hlen, he⟩ | ⟨hlt, hlen, he⟩ | ⟨hfull, he⟩ <;> rw [he]
  · exact (dif_pos hlt).trans (if_pos hlen)
  · exact (dif_pos hlt).trans (if_neg hlen)
  · exact dif_neg (by simp [State.withAccess, hfull])

theorem tickStep_withAccess :
    tickStep (s.withAccess access refused) = andThen (tickStep s) fun t => .next (t.withAccess access refused) := by
  have hsame : (s.withAccess access refused).tmr = s.tmr := rfl
  unfold tickStep
  rw [State.withAccess_tick, hsame]
  split
  · split
    · rfl
    · split <;> rfl
  · rfl

theorem readingStep_withAccess :
    readingStep (s.withAccess access refused) = andThen (readingStep s) fun t => .next (t.withAccess access refused) := by
  unfold readingStep
  rw [State.withAccess_rx]
  cases s.input.rx with
  | none => exact tickStep_withAccess access refused s
  | fault => rfl
  | byte b =>
    dsimp only
    rw [receiveByte_withAccess, andThen_assoc, andThen_assoc]
    congr 1
    funext t
    have hsame : (t.withAccess access refused).ds = t.ds := rfl
    rw [andThen_next, hsame, tickStep_withAccess]
    split <;> rfl

/-- No transition of the dispatcher sees the host's access, nor reads or writes `HZ`. -/
theorem dispatcherPhase_withAccess :
    dispatcherPhase (s.withAccess access refused) = andThen (dispatcherPhase s) fun t => .next (t.withAccess access refused) := by
  have hsame : (s.withAccess access refused).ds = s.ds := rfl
  unfold dispatcherPhase
  rw [hsame]
  cases hd : s.ds
  case opening => exact congrArg _ (openingStep_withAccess access refused s)
  case writing =>
    dsimp only
    rw [writePhase_eq hd, writePhase_eq (hsame.trans hd), andThen_next, writingStep_withAccess]
  case reading => exact readingStep_withAccess access refused s
  all_goals rfl

end

/-- A step that begins busy goes as without the host's access, but for the `HZ` of a refused write. -/
theorem step_of_busy_access {s : State} {j : Input} (hb : s.busy = true) (hr : j.rst = false) (l : List Input)
    (access : HostAccess) :
    step { s with inputs := { j with host := access } :: l } =
      andThen (step { s with inputs := { j with host := .none } :: l }) fun t =>
        .next { t with hz := t.hz || HostAccess.isWrite access } := by
  have hrefusing : State.refusing { s with inputs := { j with host := access } :: l } =
      (State.refusing { s with inputs := { j with host := .none } :: l }).withAccess access (HostAccess.isWrite access) := by
    simp [State.refusing, State.withAccess, HostAccess.isWrite]
  rw [step_of_busy (s := { s with inputs := { j with host := access } :: l }) hr hb,
    step_of_busy (s := { s with inputs := { j with host := .none } :: l }) hr hb,
    hrefusing, dispatcherPhase_withAccess, andThen_assoc, andThen_assoc]
  simp only [andThen_next, State.withAccess_advance]

/-- Settles O30: of a step that begins busy the host's access is the `HZ` of a write alone. -/
theorem busyWriteIsRefused : Obligations.BusyWriteIsRefused := by
  intro s j l a d t hb hr ht
  rw [step_of_busy_access hb hr, ht]
  simp [HostAccess.isWrite]

/-- A host access that is no write changes nothing. -/
theorem hostPhase_of_not_isWrite {s : State} (hw : HostAccess.isWrite s.input.host = false) : hostPhase s = .next s := by
  unfold hostPhase
  cases hh : s.input.host with
  | none => rfl
  | read a => rfl
  | write a d => simp [hh, HostAccess.isWrite] at hw

/-- At rest a step without a host write uses up its input record alone. -/
theorem step_of_resting_of_not_isWrite {s : State} (hr : s.input.rst = false) (hb : s.busy = false)
    (hw : HostAccess.isWrite s.input.host = false) : step s = .next s.advance := by
  rw [step_of_resting hr hb, hostPhase_of_not_isWrite hw, andThen_next]

/-- A step that samples a read goes as without it, in reset, busy and at rest. -/
theorem step_read_eq_step_none (s : State) (j : Input) (l : List Input) (a : RegNum) :
    step { s with inputs := { j with host := .read a } :: l } = step { s with inputs := { j with host := .none } :: l } := by
  have hrst (access : HostAccess) : (State.input { s with inputs := { j with host := access } :: l }).rst = j.rst := rfl
  rcases Bool.eq_false_or_eq_true j.rst with hr | hr
  · rw [step_of_rst ((hrst (.read a)).trans hr), step_of_rst ((hrst .none).trans hr)]
    rfl
  · rcases Bool.eq_false_or_eq_true s.busy with hb | hb
    · rw [step_of_busy_access hb hr]
      simp only [HostAccess.isWrite, Bool.or_false]
      exact andThen_next_right _
    · rw [step_of_resting_of_not_isWrite ((hrst (.read a)).trans hr) hb rfl,
        step_of_resting_of_not_isWrite ((hrst .none).trans hr) hb rfl]
      rfl

/-- Settles O25: `hrdata` is defined on the state before the step, and the step goes as without the read. -/
theorem readsReturnThePastAndChangeNothing : Obligations.ReadsReturnThePastAndChangeNothing :=
  fun s j l a => ⟨rfl, step_read_eq_step_none s j l a⟩

end Sys2Proof.Machine
end

section
/-! A host write to a register number at rest is the whole step (20_memory R64, R66). -/

namespace Sys2Proof.Machine

/-- A step that begins at rest refuses no write: it uses up its input record alone. -/
theorem State.stepped_of_resting {s : State} (hb : s.busy = false) : s.stepped = s.advance := by
  simp [State.stepped, State.advance, hb]

/-- Settles O27: what each writable number stores is the whole step. -/
theorem registerWritesStoreWholeWords : Obligations.RegisterWritesStoreWholeWords := by
  intro s a d hr hb hw
  rw [State.stepped_of_resting hb]
  refine ⟨?_, ?_, ?_, ?_, fun k hk => ⟨s.rsp.set k d, fun i => ?_, ?_⟩, ?_⟩
  case refine_5 => simp [Vector.getElem_set, Fin.ext_iff, eq_comm]
  case refine_6 =>
    have hop : a ≠ opRegister := by rintro rfl; simp [opRegister] at hk; omega
    rw [step_of_registerWrite hr hb hw hop, storeRegister_rsp hk]
    rfl
  all_goals
    rintro rfl
    exact step_of_registerWrite hr hb hw (by decide)

/-- Settles O28: the step is the register write, which stores nothing and sets `ILL`. -/
theorem unwritableNumbersSetIllOnly : Obligations.UnwritableNumbersSetIllOnly := by
  intro s a d hr hb hw ha
  have hop : a ≠ opRegister := by rintro rfl; revert ha; decide
  rw [State.stepped_of_resting hb, step_of_registerWrite hr hb hw hop, storeRegister_unwritable ha]
  rfl

end Sys2Proof.Machine
end

section
/-! Which instruction a step runs: the operation the host writes to `OP`, or the command frame in `TXF` during WRITING (20_memory R65,
60_exceptions R211; notes/assumptions/2.md). -/

namespace Sys2Proof.Machine

/-- The host's access that writes an operation word to `OP` is the operation. -/
theorem hostPhase_write_op {s : State} {d : HostWord} {i : Instr} (hw : s.input.host = .write opRegister d)
    (hd : decodeOp d = .ok i) : hostPhase s = exec i s := by
  simp [hostPhase, hw, startOperation, hd]

/-- At rest the step that writes an operation word to `OP` is the operation. -/
theorem step_write_op_of_resting {s : State} {d : HostWord} {i : Instr} (hr : s.input.rst = false) (hb : s.busy = false)
    (hw : s.input.host = .write opRegister d) (hd : decodeOp d = .ok i) :
    step s = andThen (exec i s) fun t => .next t.advance := by
  rw [step_of_resting hr hb, hostPhase_write_op hw hd]

/-- Settles O15: at rest the step is the operation; busy, the dispatcher's transition follows it. -/
theorem stepRunsDecodedOperation : Obligations.StepRunsDecodedOperation := by
  intro s d i hr hw hd
  refine ⟨fun hb => step_write_op_of_resting hr hb hw hd, fun hb => ?_⟩
  rw [step_of_not_rst hr, activePhase, hostPhase_write_op hw hd, hb, andThen_assoc]
  rfl

/-- In WRITING without a host write the step is the command frame in `TXF`. -/
theorem step_of_presented_frame {s : State} {i : Instr} (hr : s.input.rst = false)
    (hw : HostAccess.isWrite s.input.host = false) (hds : s.ds = .writing) (hi : decodeFrame s.cfg s.txf = .ok i) :
    step s = andThen (exec i s) fun t => .next t.advance := by
  have hb : s.busy = true := by rw [State.busy, hds]; rfl
  have hphase : dispatcherPhase s = exec i s := by simp [dispatcherPhase, hds, writePhase, hi]
  rw [step_of_not_rst hr, activePhase, hostPhase_of_not_isWrite hw, andThen_next, hb, if_pos rfl, hphase]

/-- `QUERY_FC` is all that the decoder of frames reads of the configuration (30_encoding R92). -/
theorem decodeFrame_congr {cfg cfg' : Config} (h : cfg.queryFc = cfg'.queryFc) (f : Frame) :
    decodeFrame cfg f = decodeFrame cfg' f := by
  simp [decodeFrame, h]

/-- 16 bits of the opcode table are an operation word. -/
theorem decodeTableWord_op {w : Nat} {i : Instr} (h : decodeTableWord 16 w = some i) :
    decodeOp (BitVec.ofNat 16 w) = .ok i := by
  simp only [decodeTableWord, Encoded.ofBits, decode] at h
  split at h
  · next hd => cases h; exact hd
  · cases h

/-- 40 bits of the opcode table are a command frame, under the printed `QUERY_FC`. -/
theorem decodeTableWord_frame {w : Nat} {i : Instr} (h : decodeTableWord 40 w = some i) :
    decodeFrame Config.default (Frame.ofBits (BitVec.ofNat 40 w)) = .ok i := by
  simp only [decodeTableWord, Encoded.ofBits, decode] at h
  split at h
  · next hd => cases h; exact hd
  · cases h

theorem atRest_busy (s : State) : (atRest s).busy = false := by
  unfold atRest
  split
  · rfl
  · next hb => simpa using hb

/-- Settles O17: a placed operation word is written to `OP` at rest, a placed frame stands in `TXF` during WRITING. -/
theorem placedInstructionRunsNext : Obligations.PlacedInstructionRunsNext := by
  intro s w i
  constructor
  · intro hi
    exact step_write_op_of_resting (s := placeOperation s (BitVec.ofNat 16 w)) rfl (atRest_busy s) rfl (decodeTableWord_op hi)
  · intro hq hi
    have hdec := (decodeFrame_congr hq (Frame.ofBits (BitVec.ofNat 40 w))).trans (decodeTableWord_frame hi)
    exact step_of_presented_frame (s := placeFrame s (Frame.ofBits (BitVec.ofNat 40 w))) rfl rfl rfl hdec

end Sys2Proof.Machine
end

section
/-! The decoders undo the encoder and the encoder undoes the decoder of frames (30_encoding R80, R84, R87, R89 to R92, R104). -/

namespace Sys2Proof

section
variable {d : HostWord}

/-! The arms of the decoder of operation words, by field OPC (30_encoding R84). -/

theorem decodeOp_cksum (h : opcField d = 1#4) : decodeOp d = .ok .cksum := by simp [decodeOp, h]

theorem decodeOp_build (h : opcField d = 2#4) : decodeOp d = .ok .build := by simp [decodeOp, h]

theorem decodeOp_tplua (h : opcField d = 3#4) : decodeOp d = .ok .tplua := by simp [decodeOp, h]

theorem decodeOp_tplqa (h : opcField d = 4#4) : decodeOp d = .ok .tplqa := by simp [decodeOp, h]

theorem decodeOp_send (h : opcField d = 5#4) : decodeOp d = .ok (.send (portField d) (ctField d)) := by simp [decodeOp, h]

theorem decodeOp_decode (h : opcField d = 6#4) : decodeOp d = .ok .decode := by simp [decodeOp, h]

theorem decodeOp_istat (h : opcField d = 7#4) : decodeOp d = .ok (.istat (ctField d)) := by simp [decodeOp, h]

/-- The reserved operation codes are rejected by name (30_encoding R87). -/
theorem decodeOp_reserved (h : opcField d = 0#4 ∨ 8 ≤ (opcField d).toNat) :
    decodeOp d = .error (.reservedOpcode (opcField d)) := by
  unfold decodeOp
  split
  case h_8 => rfl
  all_goals
    exfalso
    bv_omega

end

/-- Settles O18, arm by arm. -/
theorem operationWordsDecodeByOpc : Obligations.OperationWordsDecodeByOpc := fun _ =>
  ⟨decodeOp_cksum, decodeOp_build, decodeOp_tplua, decodeOp_tplqa, decodeOp_send, decodeOp_decode, decodeOp_istat,
    decodeOp_reserved⟩

/-- Settles O19: the words are closed, and the decoder evaluates on them. -/
theorem sampleWordsDecode : Obligations.SampleWordsDecode := by
  unfold Obligations.SampleWordsDecode
  decide

theorem ctField_opWordOf (port : Byte) (ct opc : BitVec 4) : ctField (opWordOf port ct opc) = ct := by
  unfold ctField opWordOf
  rw [BitVec.extractLsb'_append_eq_of_le (by decide)]
  exact BitVec.extractLsb'_append_eq_right

theorem portField_opWordOf (port : Byte) (ct opc : BitVec 4) : portField (opWordOf port ct opc) = port := by
  unfold portField opWordOf
  repeat rw [BitVec.extractLsb'_append_eq_of_le (by decide)]
  exact BitVec.extractLsb'_eq_self

/-- The 40-bit form of a frame loses no byte (30_encoding R91): dropping the bytes of the later offsets leaves each byte last,
and the byte of offset 0 alone. -/
theorem Frame.ofBits_toBits (f : Frame) : Frame.ofBits f.toBits = f := by
  obtain ⟨h, b, l, fn, c⟩ := f
  rw [Frame.ofBits, Frame.mk.injEq]
  refine ⟨?offset0, ?_, ?_, ?_, ?_⟩ <;> unfold Frame.toBits <;>
    repeat rw [BitVec.extractLsb'_append_eq_of_le (by decide)]
  case offset0 => exact BitVec.extractLsb'_eq_self
  all_goals exact BitVec.extractLsb'_append_eq_right

/-- Settles O21: a frame is the encoding of what it decodes to, and its bytes are read back from its 40 bits. -/
theorem encodeUndoesFrameDecode : Obligations.EncodeUndoesFrameDecode :=
  fun _ f _ h => ⟨encode_of_decodeFrame h, f.ofBits_toBits⟩

/-- The header alone separates the query rows from the unlock rows, whatever `QUERY_FC` is. -/
theorem hdrQuery_ne_hdrUnlock : hdrQuery ≠ hdrUnlock := by decide

theorem decodeFrame_unlockAllFrame (cfg : Config) (c : Byte) : decodeFrame cfg (unlockAllFrame c) = .ok (.unlockAll c) := by
  simp [decodeFrame, unlockAllFrame]

/-- Outside lock address 0x00 the "all" row does not take the frame over (30_encoding R104). -/
theorem decodeFrame_unlockIndividualFrame {l : Byte} (hl : l ≠ lockAll) (cfg : Config) (b c : Byte) :
    decodeFrame cfg (unlockIndividualFrame b l c) = .ok (.unlockIndividual b l c) := by
  simp [decodeFrame, unlockIndividualFrame, hl]

theorem decodeFrame_queryIndividualFrame {l : Byte} (hl : l ≠ lockAll) (cfg : Config) (b c : Byte) :
    decodeFrame cfg (queryIndividualFrame cfg b l c) = .ok (.queryIndividual b l c) := by
  simp [decodeFrame, queryIndividualFrame, hdrQuery_ne_hdrUnlock, hl]

theorem decodeFrame_queryAllFrame (cfg : Config) (c : Byte) :
    decodeFrame cfg (queryAllFrame cfg c) = .ok (.queryAll c) := by
  simp [decodeFrame, queryAllFrame, hdrQuery_ne_hdrUnlock]

/-- The lock address of a well-formed command to one door: the last of the checks of its row. -/
theorem ne_lockAll_of_checks {p : Bool} {l : Byte} (h : (p && lockOfOneDoor l) = true) : l ≠ lockAll :=
  bne_iff_ne.mp (Bool.and_eq_true_iff.mp h).2

/-- Settles O20, row by row: an operation word by its field OPC, a command frame by header and lock address. -/
theorem decodeUndoesEncode : Obligations.DecodeUndoesEncode := by
  intro cfg i h
  cases i with
  | cksum => exact decodeOp_cksum (opcField_opWordOf 0 0 1)
  | build => exact decodeOp_build (opcField_opWordOf 0 0 2)
  | tplua => exact decodeOp_tplua (opcField_opWordOf 0 0 3)
  | tplqa => exact decodeOp_tplqa (opcField_opWordOf 0 0 4)
  | send port ct =>
    have hd := decodeOp_send (opcField_opWordOf port ct 5)
    rwa [portField_opWordOf, ctField_opWordOf] at hd
  | decode => exact decodeOp_decode (opcField_opWordOf 0 0 6)
  | istat ct =>
    have hd := decodeOp_istat (opcField_opWordOf 0 ct 7)
    rwa [ctField_opWordOf] at hd
  | unlockAll c => exact decodeFrame_unlockAllFrame cfg c
  | unlockIndividual b l c => exact decodeFrame_unlockIndividualFrame (ne_lockAll_of_checks h) cfg b c
  | queryIndividual b l c => exact decodeFrame_queryIndividualFrame (ne_lockAll_of_checks h) cfg b c
  | queryAll c => exact decodeFrame_queryAllFrame cfg c

end Sys2Proof
end

section
/-! A host write of a reserved operation code at rest (30_encoding R87). -/

namespace Sys2Proof.Machine

/-- At rest the host's write of a rejected operation word sets `ILL`. -/
theorem hostPhase_write_op_error {s : State} {d : HostWord} {e : DecodeError} (hb : s.busy = false)
    (hw : s.input.host = .write opRegister d) (hd : decodeOp d = .error e) : hostPhase s = .next s.withIll := by
  simp [hostPhase, hw, startOperation, hd, reservedOp, whenResting_of_resting hb]

/-- Settles O29: the decoder rejects the word, so the host's access, which is the whole step at rest, sets `ILL`. -/
theorem reservedOpcodesSetIllOnly : Obligations.ReservedOpcodesSetIllOnly := by
  intro s d hr hb hw hopc
  rw [State.stepped_of_resting hb, step_of_resting hr hb, hostPhase_write_op_error hb hw (decodeOp_reserved hopc)]
  rfl

end Sys2Proof.Machine
end

section
/-! The Checksum Engine and the operation CKSUM (40_checksum_engine R110, R112, R114). -/

namespace Sys2Proof.Machine

/-- The engine is the fold of exclusive-or over its four arguments (40_checksum_engine R110): 0 is the fold's identity. -/
theorem foldl_xor_eq_cks8 (a b c d : Byte) : [a, b, c, d].foldl (fun x y => x ^^^ y) 0#8 = cks8 a b c d := by
  simp only [List.foldl_cons, List.foldl_nil, BitVec.zero_xor, cks8]

/-- Settles O57: exclusive-or commutes and associates, so the fold is the same along every permutation. -/
theorem checksumIgnoresOrder : Obligations.ChecksumIgnoresOrder := by
  intro a b c d l hperm
  rw [← foldl_xor_eq_cks8]
  exact hperm.foldl_eq 0#8

theorem operandsAreBytes_iff {s : State} :
    operandsAreBytes s = true ↔ s.hdr.toNat ≤ 0xFF ∧ s.brd.toNat ≤ 0xFF ∧ s.lck.toNat ≤ 0xFF ∧ s.fnc.toNat ≤ 0xFF := by
  simp [operandsAreBytes, isByte, and_assoc]

theorem operandsAreBytes_eq_false_iff {s : State} :
    operandsAreBytes s = false ↔ 0xFF < s.hdr.toNat ∨ 0xFF < s.brd.toNat ∨ 0xFF < s.lck.toNat ∨ 0xFF < s.fnc.toNat := by
  rw [← Bool.not_eq_true, operandsAreBytes_iff]
  omega

/-- The branch of R114 in which all four operands are bytes. -/
theorem cksumEffect_of_bytes {s : State} (h : operandsAreBytes s = true) :
    cksumEffect s = succeed 1#4 (s.withCks (cks8 (lowByte s.hdr) (lowByte s.brd) (lowByte s.fnc) (lowByte s.lck))) :=
  if_pos h

/-- The branch of R114 in which some operand is no byte. -/
theorem cksumEffect_of_not_bytes {s : State} (h : operandsAreBytes s = false) :
    cksumEffect s = raiseError .malformedInput 1#4 s := by
  simp [cksumEffect, h]

/-- Settles O1, by the branches of R114: refused while busy, else by the range check. -/
theorem cksumFoldsOperandsOrFails : Obligations.CksumFoldsOperandsOrFails := by
  refine ⟨fun _ => decodeOp_cksum, fun s => ⟨fun hb => ?_, fun hb hh hbr hl hf => ?_, fun hb hbeyond => ?_⟩⟩ <;>
    rw [exec, execCksum]
  · rw [whenResting_of_busy hb]
    rfl
  · rw [whenResting_of_resting hb, cksumEffect_of_bytes (operandsAreBytes_iff.mpr ⟨hh, hbr, hl, hf⟩)]
    rfl
  · rw [whenResting_of_resting hb, cksumEffect_of_not_bytes (operandsAreBytes_eq_false_iff.mpr hbeyond)]
    rfl

end Sys2Proof.Machine
end

section
/-! The operations BUILD, TPLUA and TPLQA of the frame builder (41_frame_builder R122, R126, R127). -/

namespace Sys2Proof.Machine

/-- The two answers of an operation (20_memory R62, 70_reset_and_hazards R240): refused with `HZ` while BUSY, its effect at
rest. -/
theorem operation_answers (effect : State → State) (s : State) :
    (s.busy = true → (.next (whenResting s effect) : Out) = .next { s with hz := true }) ∧
    (s.busy = false → (.next (whenResting s effect) : Out) = .next (effect s)) :=
  ⟨fun hb => congrArg _ (whenResting_of_busy hb effect), fun hb => congrArg _ (whenResting_of_resting hb effect)⟩

/-- The branch of R122 in which all four operands are bytes. -/
theorem buildEffect_of_bytes {s : State} (h : operandsAreBytes s = true) :
    buildEffect s = succeed 2#4 ((s.withFrame (builtFrame s) true).withCks (builtFrame s).checksum) :=
  if_pos h

/-- The branch of R122 and R129 in which some operand is no byte. -/
theorem buildEffect_of_not_bytes {s : State} (h : operandsAreBytes s = false) :
    buildEffect s = raiseError .malformedInput 2#4 (s.withFrame zeroFrame false) := by
  simp [buildEffect, h]

/-- Settles O2, by the branches of R122: refused while busy, else by the range check. -/
theorem buildInjectsChecksumOrErasesFrame : Obligations.BuildInjectsChecksumOrErasesFrame := by
  refine ⟨fun _ => decodeOp_build, fun s => ?_⟩
  obtain ⟨hrefused, heffect⟩ := operation_answers buildEffect s
  refine ⟨hrefused, fun hb hhdr hbrd hlck hfnc h b l f c eh eb el ef ec => (heffect hb).trans ?_,
    fun hb hbeyond => (heffect hb).trans ?_⟩
  · subst eh eb el ef ec
    rw [buildEffect_of_bytes (operandsAreBytes_iff.mpr ⟨hhdr, hbrd, hlck, hfnc⟩)]
    rfl
  · rw [buildEffect_of_not_bytes (operandsAreBytes_eq_false_iff.mpr hbeyond)]
    rfl

/-- Settles O3: at rest TPLUA has one effect, the template of R126, with no check of an operand. -/
theorem tpluaLoadsUnlockAllTemplate : Obligations.TpluaLoadsUnlockAllTemplate :=
  ⟨fun _ => decodeOp_tplua, operation_answers tpluaEffect⟩

/-- Settles O4: at rest TPLQA has one effect, the template of R127 for whatever `QUERY_FC` the configuration has. -/
theorem tplqaLoadsQueryAllTemplate : Obligations.TplqaLoadsQueryAllTemplate :=
  ⟨fun _ => decodeOp_tplqa, operation_answers tplqaEffect⟩

end Sys2Proof.Machine
end

section
/-! The operations DECODE and ISTAT of the response decoder (42_response_decoder R141 to R144, R149). -/

namespace Sys2Proof.Machine

theorem elementsAreBytes_iff {s : State} {n : Nat} :
    elementsAreBytes s n = true ↔ ∀ i : Fin 7, i.val < n → s.rsp[i].toNat ≤ 0xFF := by
  simp [elementsAreBytes, isByte]

theorem elementsAreBytes_eq_false_iff {s : State} {n : Nat} :
    elementsAreBytes s n = false ↔ ∃ i : Fin 7, i.val < n ∧ 0xFF < s.rsp[i].toNat := by
  simp only [← Bool.not_eq_true, elementsAreBytes_iff, not_forall, Nat.not_le, exists_prop]

/-- The branch of R141 in which the length or an element is out of range. -/
theorem decodeEffect_of_malformed {s : State} (h : 7 < s.rspLen.toNat ∨ elementsAreBytes s s.rspLen.toNat = false) :
    decodeEffect s = raiseError .malformedInput 6#4 (s.withGroups zeroGroups 0#3) :=
  if_pos h

/-- The branch of R141 for a reply of seven bytes (R143). -/
theorem decodeEffect_of_seven_bytes {s : State} (hn : s.rspLen.toNat = 7) (h : elementsAreBytes s 7 = true) :
    decodeEffect s = succeed 6#4 (s.withGroups (queryAllGroups s) 3#3) := by
  simp [decodeEffect, hn, h]

/-- The branch of R141 for a reply of at most six bytes (R144). -/
theorem decodeEffect_of_le_six_bytes {s : State} (hn : s.rspLen.toNat ≤ 6) (h : elementsAreBytes s s.rspLen.toNat = true) :
    decodeEffect s = succeed 6#4 (s.withGroups (wholeGroups s s.rspLen.toNat) (s.rspLen.setWidth 3)) := by
  have hle : ¬ 7 < s.rspLen.toNat := by omega
  have hne : s.rspLen.toNat ≠ 7 := by omega
  simp [decodeEffect, hle, hne, h]

/-- The group list of a reply of `n` elements, at every index: the reply's own byte, else the padding (R144). -/
theorem wholeGroups_getElem (s : State) (n : Nat) (i : Fin 6) :
    (wholeGroups s n)[i] = if i.val < n then lowByte (s.rsp[i.val]'(by omega)) else 0#8 := by
  fin_cases i <;> rfl

/-- Settles O11, by the branches of R141: refused while busy, else by the range check and the length. -/
theorem decodeListsGroupsOrFails : Obligations.DecodeListsGroupsOrFails := by
  refine ⟨fun _ => decodeOp_decode, fun s => ?_⟩
  obtain ⟨hrefused, heffect⟩ := operation_answers decodeEffect s
  refine ⟨hrefused, fun hb hmalformed => (heffect hb).trans ?_, fun hb hseven hbytes => (heffect hb).trans ?_,
    fun hb hsix hbytes => ⟨wholeGroups s s.rspLen.toNat, wholeGroups_getElem s _, (heffect hb).trans ?_⟩⟩
  · rw [decodeEffect_of_malformed (hmalformed.imp_right elementsAreBytes_eq_false_iff.mpr)]
    rfl
  · rw [decodeEffect_of_seven_bytes hseven (elementsAreBytes_iff.mpr fun i _ => hbytes i)]
    rfl
  · rw [decodeEffect_of_le_six_bytes hsix (elementsAreBytes_iff.mpr hbytes)]
    rfl

/-- The low byte of a word in byte range determines the word (00_scope R10). -/
theorem lowByte_eq_iff {v : HostWord} (h : v.toNat ≤ 0xFF) (b : Byte) : lowByte v = b ↔ v = zext16 b := by
  simp only [lowByte, zext16, ← BitVec.toNat_inj, BitVec.extractLsb'_toNat, BitVec.toNat_setWidth]
  omega

/-- The class of a reply's status element, given as the host word that holds it: a code of R149 is met by the whole word. -/
theorem doorClass_lowByte {v : HostWord} (h : v.toNat ≤ 0xFF) (ct : BitVec 4) :
    doorClass ct (lowByte v) =
      if ct = 1#4 then if v = 0x0011#16 then .unlockFailed else if v = 0x0000#16 then .doorOpen else .unknown
      else if ct = 2#4 then if v = 0x0011#16 then .locked else if v = 0x0000#16 then .doorOpen else .unknown
      else .none := by
  have hclosed : lowByte v = fcUnlock ↔ v = 0x0011#16 := lowByte_eq_iff h fcUnlock
  have hopen : lowByte v = fcOpen ↔ v = 0x0000#16 := lowByte_eq_iff h fcOpen
  unfold doorClass
  split
  next hct =>
    obtain rfl : ct = 1#4 := BitVec.eq_of_toNat_eq hct
    simp only [hclosed, hopen, if_true]
  next hct =>
    obtain rfl : ct = 2#4 := BitVec.eq_of_toNat_eq hct
    simp [hclosed, hopen]
  next hone htwo =>
    have hct1 : ct ≠ 1#4 := fun e => hone (congrArg BitVec.toNat e)
    have hct2 : ct ≠ 2#4 := fun e => htwo (congrArg BitVec.toNat e)
    rw [if_neg hct1, if_neg hct2]

/-- The branch of R149 for a code that is no command type, whatever the response holds (60_exceptions R212). -/
theorem istatEffect_of_unrecognized {ct : BitVec 4} (hct : 3 < ct.toNat) (s : State) :
    istatEffect ct s = raiseError .unrecognizedCommandType 7#4 (s.withIstat .none) :=
  if_pos hct

/-- The branch of R149 in which the length or an element is out of range. -/
theorem istatEffect_of_malformed {ct : BitVec 4} {s : State} (hct : ct.toNat ≤ 3)
    (h : s.rspLen ≠ 5#4 ∨ elementsAreBytes s 5 = false) :
    istatEffect ct s = raiseError .malformedInput 7#4 (s.withIstat .none) := by
  rw [istatEffect, if_neg (by omega), if_pos h]

/-- The branch of R149 for a reply of five bytes. -/
theorem istatEffect_of_five_bytes {ct : BitVec 4} {s : State} (hct : ct.toNat ≤ 3) (hn : s.rspLen = 5#4)
    (h : elementsAreBytes s 5 = true) : istatEffect ct s = succeed 7#4 (s.withIstat (doorClass ct (lowByte s.rsp[3]))) := by
  rw [istatEffect, if_neg (by omega), if_neg (by simp [hn, h])]

/-- Settles O12, by the branches of R149: refused while busy, else by the type, then the range check, then the status byte. -/
theorem istatClassifiesByCommandType : Obligations.IstatClassifiesByCommandType := by
  refine ⟨fun _ => decodeOp_istat, fun s ct => ?_⟩
  obtain ⟨hrefused, heffect⟩ := operation_answers (istatEffect ct) s
  refine ⟨hrefused, fun hb hct => (heffect hb).trans ?_, fun hb hct hmalformed => (heffect hb).trans ?_,
    fun hb hct hfive hbytes => (heffect hb).trans ?_⟩
  · rw [istatEffect_of_unrecognized hct]
    rfl
  · rw [istatEffect_of_malformed hct (hmalformed.imp_right elementsAreBytes_eq_false_iff.mpr)]
    rfl
  · have hstatus : s.rsp[3].toNat ≤ 0xFF := hbytes 3 (by decide)
    rw [istatEffect_of_five_bytes hct hfive (elementsAreBytes_iff.mpr hbytes), doorClass_lowByte hstatus]
    rfl

end Sys2Proof.Machine
end

section
/-! The operation SEND at rest: what it clears, and its three branches (43_bus_dispatcher R165 to R168). -/

namespace Sys2Proof.Machine

/-- The branches of SEND at rest, in the order of their checks. -/
theorem sendEffect_cases (port : Byte) (ct : BitVec 4) (s : State) :
    (3 < ct.toNat ∧ sendEffect port ct s = rejectSend .unrecognizedCommandType (sendCommon s)) ∨
    (ct.toNat ≤ 3 ∧ s.txv = false ∧ sendEffect port ct s = rejectSend .malformedInput (sendCommon s)) ∨
    (ct.toNat ≤ 3 ∧ s.txv = true ∧ sendEffect port ct s = acceptSend port ct (sendCommon s)) := by
  rcases Nat.lt_or_ge 3 ct.toNat with h | h
  · exact .inl ⟨h, sendEffect_unrecognized h⟩
  · cases hv : s.txv with
    | false => exact .inr (.inl ⟨h, rfl, sendEffect_noFrame h hv⟩)
    | true => exact .inr (.inr ⟨h, rfl, sendEffect_accepted h hv⟩)

/-- Settles O7: whichever branch SEND takes at rest, it starts from the cleared exchange and ends with `LASTOP` = 5. -/
theorem sendClearsLastExchange : Obligations.SendClearsLastExchange := by
  intro s port ct
  obtain ⟨hrefused, heffect⟩ := operation_answers (sendEffect port ct) s
  refine ⟨hrefused, fun hb => ?_⟩
  rcases sendEffect_cases port ct s with ⟨_, he⟩ | ⟨_, _, he⟩ | ⟨_, _, he⟩
  · exact ⟨_, _, _, _, rfl, (heffect hb).trans (congrArg _ he)⟩
  · exact ⟨_, _, _, _, rfl, (heffect hb).trans (congrArg _ he)⟩
  · exact ⟨_, _, _, _, rfl, (heffect hb).trans (congrArg _ he)⟩

/-- SEND at rest answers the state of its branch. -/
theorem exec_send_of_resting {port : Byte} {ct : BitVec 4} {s t : State} (hb : s.busy = false)
    (h : sendEffect port ct s = t) : exec (.send port ct) s = .next t :=
  ((operation_answers (sendEffect port ct) s).2 hb).trans (congrArg _ h)

/-- A rejected SEND leaves the core at rest with no request to the transport. -/
theorem rejectSend_drives_nothing (k : ErrorKind) (s : State) :
    (rejectSend k s).busy = false ∧ (outputs (rejectSend k s)).openReq = false ∧ (outputs (rejectSend k s)).txReq = false ∧
    (outputs (rejectSend k s)).drvEn = false ∧ (outputs (rejectSend k s)).rxEn = false ∧
    (outputs (rejectSend k s)).closeReq = false := ⟨rfl, rfl, rfl, rfl, rfl, rfl⟩

/-- Settles O8: the check of the type comes first, so the branch is taken whatever `TXV` is. -/
theorem sendRejectsUnknownTypeFirst : Obligations.SendRejectsUnknownTypeFirst :=
  fun _ _ _ hb hct => ⟨_, exec_send_of_resting hb (sendEffect_unrecognized hct), rfl, rejectSend_drives_nothing _ _⟩

/-- Settles O9: the branch of a known type without a frame. -/
theorem sendWithoutFrameFails : Obligations.SendWithoutFrameFails :=
  fun _ _ _ hb hct hv => ⟨_, exec_send_of_resting hb (sendEffect_noFrame hct hv), rfl, rejectSend_drives_nothing _ _⟩

/-- Settles O10: the branch of a known type with a frame; the outputs of OPENING follow from the state it answers. -/
theorem sendAcceptedLatchesAndOpens : Obligations.SendAcceptedLatchesAndOpens :=
  fun _ _ _ hb hct hv => ⟨_, exec_send_of_resting hb (sendEffect_accepted hct hv), rfl, rfl, rfl, rfl⟩

end Sys2Proof.Machine
end

section
/-! What the core drives in each dispatcher state (43_bus_dispatcher R162, R188). -/

namespace Sys2Proof.Machine

/-- `drv_en` is driven in WRITING alone, `rx_en` in READING alone. -/
theorem outputs_drvEn_and_rxEn (s : State) : ((outputs s).drvEn && (outputs s).rxEn) = false := by
  unfold outputs
  cases s.ds <;> rfl

/-- An outcome state releases the port exactly when it is open (R181). -/
theorem outputs_closeReq_of_outcome {s : State} (h : s.ds = .success ∨ s.ds = .timeout ∨ s.ds = .tfault) :
    (outputs s).closeReq = s.conn := by
  simp [outputs, h]

/-- Settles O39: `port_o` and `tx_data` do not depend on `DS`, the others are evaluated in each of its values. -/
theorem outputsFollowTheState : Obligations.OutputsFollowTheState := by
  intro s
  refine ⟨rfl, rfl, ?_, outputs_drvEn_and_rxEn s, id⟩
  unfold outputs State.busy
  cases s.ds <;> rfl

end Sys2Proof.Machine
end

section
/-! A step that begins busy is one transition of the dispatcher, and each transition by what the transport answers
(43_bus_dispatcher R169 to R181). -/

namespace Sys2Proof.Machine

/-- Recording the refusal of a write is `HZ` for it, under the access that is sampled anyway. -/
theorem State.refusing_eq_withAccess (s : State) :
    s.refusing = s.withAccess s.input.host (HostAccess.isWrite s.input.host) := by
  cases hl : s.inputs <;> simp [State.refusing, State.withAccess, State.input, hl]

/-- A step that begins busy: the transition of the dispatcher from the state as it is, beside what every busy step does. -/
theorem step_of_busy_eq {s : State} (hr : s.input.rst = false) (hb : s.busy = true) :
    step s = andThen (dispatcherPhase s) fun t => .next (s.stepped.withExchangeOf t) := by
  rw [step_of_busy hr hb, State.refusing_eq_withAccess, dispatcherPhase_withAccess, andThen_assoc]
  cases hu : dispatcherPhase s with
  | next u =>
    simp only [andThen_next, State.withAccess_advance]
    rw [dispatcherPhase_exchange hu]
    simp [State.stepped, State.advance, State.withExchangeOf, hb]
  | fault r => rfl
  | refused r => rfl

/-- In a state with BUSY = 1 the step is the transition of that state. -/
theorem step_of_transition {s u : State} (hr : s.input.rst = false) (hb : s.ds.busy = true)
    (hu : dispatcherPhase s = .next u) : step s = .next (s.stepped.withExchangeOf u) := by
  rw [step_of_busy_eq hr hb, hu, andThen_next]

theorem step_of_opening {s : State} (hr : s.input.rst = false) (hds : s.ds = .opening) :
    step s = .next (s.stepped.withExchangeOf (openingStep s)) :=
  step_of_transition hr (by rw [hds]; rfl) (by rw [dispatcherPhase, hds])

theorem step_of_writing {s : State} (hr : s.input.rst = false) (hds : s.ds = .writing) :
    step s = .next (s.stepped.withExchangeOf (writingStep s)) :=
  step_of_transition hr (by rw [hds]; rfl) (by rw [dispatcherPhase, hds]; exact writePhase_eq hds)

theorem step_of_reading {s : State} (hr : s.input.rst = false) (hds : s.ds = .reading) :
    step s = andThen (readingStep s) fun t => .next (s.stepped.withExchangeOf t) := by
  rw [step_of_busy_eq hr (by rw [State.busy, hds]; rfl), dispatcherPhase, hds]

theorem step_of_outcome {s : State} (hr : s.input.rst = false) (hds : s.ds = .success ∨ s.ds = .timeout ∨ s.ds = .tfault) :
    step s = .next (s.stepped.withExchangeOf (leaveOutcome s)) := by
  rcases hds with h | h | h <;>
    exact step_of_transition hr (by rw [h]; rfl) (by rw [dispatcherPhase, h])

section
variable {s : State}

theorem openingStep_of_ok (h : s.input.openRsp = .ok) : openingStep s = { s with conn := true, ds := .writing } := by
  rw [openingStep, h]
  rfl

theorem openingStep_of_none (h : s.input.openRsp = .none) : openingStep s = s := by
  rw [openingStep, h]

theorem openingStep_of_fail (h : s.input.openRsp = .fail) : openingStep s = enterTfault s := by
  rw [openingStep, h]

theorem writingStep_of_none (h : s.input.txRsp = .none) : writingStep s = s := by
  rw [writingStep, h]

theorem writingStep_of_fail (h : s.input.txRsp = .fail) : writingStep s = enterTfault s := by
  rw [writingStep, h]

/-- The window by the command type itself, where `tq` asks for its number (R172). -/
theorem tq_eq (ct : BitVec 4) : tq ct = if ct = 0#4 then 40#6 else 3#6 := by
  decide +revert

theorem writingStep_of_done (h : s.input.txRsp = .done) :
    writingStep s = { s with tmr := if s.dct = 0#4 then 40#6 else 3#6, rxcnt := 0#3, ds := .reading } := by
  rw [writingStep, h, ← tq_eq]
  rfl

end

/-- Settles O31: the transition in OPENING, by its answer. -/
theorem openingFollowsTheAnswer : Obligations.OpeningFollowsTheAnswer := by
  intro s hr hds
  rw [step_of_opening hr hds]
  refine ⟨fun h => ?_, fun h => ?_, fun h => ?_⟩
  · rw [openingStep_of_ok h]
    rfl
  · rw [openingStep_of_none h]
    rfl
  · rw [openingStep_of_fail h]
    rfl

/-- Settles O32: the transition in WRITING, by its answer, without a look at the frame. -/
theorem writingFollowsTheAnswerForEveryFrame : Obligations.WritingFollowsTheAnswerForEveryFrame := by
  intro s hds
  refine ⟨⟨decide_eq_true hds, decide_eq_true hds, rfl⟩, fun hr => ?_⟩
  rw [step_of_writing hr hds]
  refine ⟨fun h => ?_, fun h => ?_, fun h => ?_⟩
  · rw [writingStep_of_done h]
    rfl
  · rw [writingStep_of_none h]
    rfl
  · rw [writingStep_of_fail h]
    rfl

/-- A meaning that is the write phase carries it out, by the transport's answer. -/
theorem carriesOutWrite_of_exec {i : Instr} {s : State} (h : exec i s = .next (writingStep s)) : CarriesOutWrite i s := by
  unfold CarriesOutWrite
  rw [h]
  refine ⟨fun ht => ?_, fun ht => ?_, fun ht => ?_⟩
  · rw [writingStep_of_none ht]
  · rw [writingStep_of_done ht]
  · rw [writingStep_of_fail ht]
    rfl

/-- Settles O13: presented in WRITING, each of the four frames has the write phase as its meaning. -/
theorem commandFramesCarryOutWritePhase : Obligations.CommandFramesCarryOutWritePhase := by
  intro s hds
  have hpresented {f : Frame} (hf : s.txf = f) : transmitFrame f s = .next (writingStep s) :=
    transmitFrame_eq_next.mpr ⟨hds, hf, rfl⟩
  exact ⟨fun _ hf => carriesOutWrite_of_exec (hpresented hf), fun _ _ _ hf => carriesOutWrite_of_exec (hpresented hf),
    fun _ _ _ hf => carriesOutWrite_of_exec (hpresented hf), fun _ hf => carriesOutWrite_of_exec (hpresented hf)⟩

/-- Settles O37: the transition of an outcome state looks at no input. -/
theorem outcomeStatesCloseInOneStep : Obligations.OutcomeStatesCloseInOneStep :=
  fun _ hds => ⟨outputs_closeReq_of_outcome hds, fun hr => step_of_outcome hr hds⟩

end Sys2Proof.Machine
end

section
/-! The step in READING: the byte first, then the tick if the byte has not ended the dispatch (43_bus_dispatcher R173 to R176). -/

namespace Sys2Proof.Machine

/-- No reply is longer than the response buffer (R172). -/
theorem explen_le (ct : BitVec 4) : explen ct ≤ 7 := by
  decide +revert

/-- The reply's length by the command type itself, where `explen` asks for its number (R172). -/
theorem ofNat_explen (ct : BitVec 4) : BitVec.ofNat 4 (explen ct) = if ct = 3#4 then 7#4 else 5#4 := by
  decide +revert

/-- The response buffer after a byte, at every index (R173). -/
theorem getElem_set_zext16 (r : Vector HostWord 7) (b : Byte) {k : Nat} (hk : k < 7) (i : Fin 7) :
    (r.set k (zext16 b) hk)[i] = if i.val = k then b.setWidth 16 else r[i] := by
  simp [Vector.getElem_set, zext16, eq_comm]

section
variable {s : State}

/-- A step that leaves the window open counts its tick. -/
theorem tickStep_of_open (h : s.input.tick = false ∨ 1 < s.tmr.toNat) :
    tickStep s = .next { s with tmr := if s.input.tick then s.tmr - 1#6 else s.tmr } := by
  rcases tickStep_cases s with ⟨ht, he⟩ | ⟨ht, _, _, he⟩ | ⟨ht, _, h1, _⟩ | ⟨ht, h0, _⟩
  · simp [he, ht]
  · simp [he, ht, State.withTmr]
  · simp only [ht, Bool.true_eq_false, false_or] at h
    bv_omega
  · simp [ht, h0] at h

/-- The last tick of the window. -/
theorem tickStep_of_last (ht : s.input.tick = true) (h1 : s.tmr = 1#6) :
    tickStep s = .next (enterTimeout (s.withTmr 0#6)) := by
  simp [tickStep, ht, h1]

theorem readingStep_of_none (h : s.input.rx = .none) : readingStep s = tickStep s := by
  rw [readingStep, h]

theorem readingStep_of_fault (h : s.input.rx = .fault) : readingStep s = .next (enterTfault s) := by
  rw [readingStep, h]

/-- The byte that completes the reply ends the dispatch, and the tick is not looked at (R175). -/
theorem readingStep_of_completing {b : Byte} (h : s.input.rx = .byte b) (hk : s.rxcnt.toNat < 7)
    (hlast : s.rxcnt.toNat + 1 = explen s.dct) :
    readingStep s = .next (enterSuccess (storeByteAt b s s.rxcnt.toNat hk)) := by
  simp [readingStep, h, receiveByte, hk, hlast]

/-- Any other byte is stored, and the tick follows. -/
theorem readingStep_of_byte {b : Byte} (hds : s.ds = .reading) (h : s.input.rx = .byte b) (hk : s.rxcnt.toNat < 7)
    (hmore : s.rxcnt.toNat + 1 ≠ explen s.dct) :
    readingStep s = tickStep (storeByteAt b s s.rxcnt.toNat hk) := by
  have hstill : (storeByteAt b s s.rxcnt.toNat hk).ds = .reading := hds
  simp [readingStep, h, receiveByte, hk, hmore, hstill]

/-- A byte past the buffer stops the model (20_memory R69). -/
theorem readingStep_of_full {b : Byte} (h : s.input.rx = .byte b) (hfull : s.rxcnt.toNat = 7) :
    readingStep s = .fault .rspIndexOutOfRange := by
  simp [readingStep, h, receiveByte, hfull]

end

/-- Settles O33: the completing byte fits the buffer, since no reply is longer than it. -/
theorem completingByteSucceedsAtOnce : Obligations.CompletingByteSucceedsAtOnce := by
  intro s b hr hds hrx hlast
  have hk : s.rxcnt.toNat < 7 := by
    have := explen_le s.dct
    omega
  refine ⟨_, getElem_set_zext16 s.rsp b hk, ?_⟩
  rw [step_of_reading hr hds, readingStep_of_completing hrx hk hlast, ← ofNat_explen]
  rfl

/-- Settles O34: a fault is looked at before the tick, and ends the dispatch. -/
theorem receiveFaultEndsTheDispatch : Obligations.ReceiveFaultEndsTheDispatch := by
  intro s hr hds hrx
  rw [step_of_reading hr hds, readingStep_of_fault hrx]
  rfl

/-- Settles O35: the window stays open, so the step is its byte, if any, and its tick, if any. -/
theorem readingCountsTicksAndBytes : Obligations.ReadingCountsTicksAndBytes := by
  intro s hr hds hopen
  rw [step_of_reading hr hds]
  refine ⟨fun hrx => ?_, fun b hrx hk hmore => ⟨_, getElem_set_zext16 s.rsp b hk, ?_⟩⟩
  · rw [readingStep_of_none hrx, tickStep_of_open hopen]
    rfl
  · rw [readingStep_of_byte hds hrx hk hmore, tickStep_of_open (s := storeByteAt b s _ hk) hopen]
    rfl

/-- Settles O36: the step is its byte, if any, and the last tick of the window. -/
theorem lastTickTimesOutAndDropsPartialReply : Obligations.LastTickTimesOutAndDropsPartialReply := by
  intro s hr hds htick htmr
  rw [step_of_reading hr hds]
  refine ⟨fun hrx => ?_, fun b hrx hk hmore => ?_⟩
  · rw [readingStep_of_none hrx, tickStep_of_last htick htmr]
    rfl
  · rw [readingStep_of_byte hds hrx hk hmore, tickStep_of_last (s := storeByteAt b s _ hk) htick htmr]
    rfl

end Sys2Proof.Machine
end

section
/-! The next dispatcher state of every step without reset, row by row of the transition table (43_bus_dispatcher R186). -/

namespace Sys2Proof.Machine

theorem storeRegister_ds (a : RegNum) (d : HostWord) (s : State) : (storeRegister a d s).ds = s.ds := by
  rcases storeRegister_cases a d s with h | h | h | h | ⟨_, h⟩ | h | h <;> rw [h] <;> rfl

theorem cksumEffect_ds (s : State) : (cksumEffect s).ds = s.ds := by
  unfold cksumEffect
  split <;> rfl

theorem buildEffect_ds (s : State) : (buildEffect s).ds = s.ds := by
  unfold buildEffect
  split <;> rfl

theorem decodeEffect_ds (s : State) : (decodeEffect s).ds = s.ds := by
  unfold decodeEffect
  dsimp only
  split
  · rfl
  · split <;> rfl

theorem istatEffect_ds (ct : BitVec 4) (s : State) : (istatEffect ct s).ds = s.ds := by
  unfold istatEffect
  split
  · rfl
  · split <;> rfl

theorem sendEffect_ds (port : Byte) (ct : BitVec 4) (s : State) :
    (sendEffect port ct s).ds = if 3 < ct.toNat then .closed else if s.txv = false then .closed else .opening := by
  rcases sendEffect_cases port ct s with ⟨hct, he⟩ | ⟨hct, hv, he⟩ | ⟨hct, hv, he⟩ <;> rw [he]
  · simp [hct]
  · simp [Nat.not_lt.mpr hct, hv]
  · simp [Nat.not_lt.mpr hct, hv]

/-- Of the operations, SEND alone moves the dispatcher. -/
theorem exec_ds {d : HostWord} {i : Instr} {s u : State} (hb : s.busy = false) (hd : decodeOp d = .ok i)
    (h : exec i s = .next u) : u.ds = if opcField d = 5#4 then (sendEffect (portField d) (ctField d) s).ds else s.ds := by
  rcases exec_resting_cases hb hd h with ⟨ho, rfl⟩ | ⟨ho, rfl⟩ | ⟨ho, rfl⟩ | ⟨ho, rfl⟩ | ⟨ho, rfl⟩ | ⟨ho, rfl⟩ | ⟨ho, rfl⟩ <;>
    rw [ho]
  · exact cksumEffect_ds s
  · exact buildEffect_ds s
  · rfl
  · rfl
  · rfl
  · exact decodeEffect_ds s
  · exact istatEffect_ds _ s

/-- The tick's part of the table: the last tick of the window ends the wait. -/
theorem tickStep_ds {s t : State} (h : tickStep s = .next t) :
    t.ds = if s.input.tick = true ∧ s.tmr = 1#6 then .timeout else s.ds := by
  rcases tickStep_cases s with ⟨ht, he⟩ | ⟨ht, _, h1, he⟩ | ⟨ht, _, h1, he⟩ | ⟨_, _, he⟩ <;> rw [he] at h <;> cases h
  · simp [ht]
  · have hmore : s.tmr ≠ 1#6 := by bv_omega
    simp [hmore]
  · have hlast : s.tmr = 1#6 := by bv_omega
    simp [ht, hlast, enterTimeout]

/-- At rest a SEND moves the dispatcher, by its type and `TXV`; nothing else does. -/
theorem step_ds_of_resting {s t : State} (hr : s.input.rst = false) (hb : s.busy = false) (h : step s = .next t) :
    t.ds = match s.input.host with
      | .write a d =>
        if a = opRegister ∧ opcField d = 5#4 then
          if 3 < (ctField d).toNat then .closed else if s.txv = false then .closed else .opening
        else s.ds
      | _ => s.ds := by
  rcases step_resting_cases hr hb h with ⟨hw, rfl⟩ | ⟨d, i, u, hw, hd, hu, rfl⟩ | ⟨d, e, hw, hd, rfl⟩ | ⟨a, d, hw, ha, rfl⟩
  · cases hh : s.input.host with
    | none => rfl
    | read a => rfl
    | write a d => simp [hh, HostAccess.isWrite] at hw
  · have hds : u.advance.ds = u.ds := rfl
    rw [hw, hds, exec_ds hb hd hu, sendEffect_ds]
    simp
  · have hopc : opcField d ≠ 5#4 := by
      have := reserved_of_decodeOp_error hd
      bv_omega
    rw [hw]
    exact (if_neg fun hsend => hopc hsend.2).symm
  · rw [hw]
    exact (storeRegister_ds a d s).trans (if_neg fun hsend => ha hsend.1).symm

theorem openingStep_ds {s : State} (hds : s.ds = .opening) :
    (openingStep s).ds = match s.input.openRsp with | .ok => .writing | .fail => .tfault | .none => .opening := by
  rcases openingStep_cases s with ⟨hi, he⟩ | ⟨hi, he⟩ | ⟨hi, he⟩ <;> rw [hi, he]
  · exact hds
  · rfl
  · rfl

theorem writingStep_ds {s : State} (hds : s.ds = .writing) :
    (writingStep s).ds = match s.input.txRsp with | .done => .reading | .fail => .tfault | .none => .writing := by
  rcases writingStep_cases s with ⟨hi, he⟩ | ⟨hi, he⟩ | ⟨hi, he⟩ <;> rw [hi, he]
  · exact hds
  · rfl
  · rfl

/-- In READING the byte comes before the tick, and a fault before both. -/
theorem readingStep_ds {s t : State} (hds : s.ds = .reading) (h : readingStep s = .next t) :
    t.ds = match s.input.rx with
      | .fault => .tfault
      | .none => if s.input.tick = true ∧ s.tmr = 1#6 then .timeout else .reading
      | .byte _ =>
        if s.rxcnt.toNat + 1 = explen s.dct then .success
        else if s.input.tick = true ∧ s.tmr = 1#6 then .timeout else .reading := by
  cases hrx : s.input.rx with
  | none =>
    rw [readingStep_of_none hrx] at h
    rw [tickStep_ds h, hds]
  | fault =>
    rw [readingStep_of_fault hrx] at h
    cases h
    rfl
  | byte b =>
    rcases receiveByte_cases b s with ⟨hk, hlast, _⟩ | ⟨hk, hmore, _⟩ | ⟨hfull, _⟩
    · rw [readingStep_of_completing hrx hk hlast] at h
      cases h
      exact (if_pos hlast).symm
    · rw [readingStep_of_byte hds hrx hk hmore] at h
      have htick := tickStep_ds h
      rw [show (storeByteAt b s s.rxcnt.toNat hk).ds = .reading from hds] at htick
      exact htick.trans (if_neg hmore).symm
    · rw [readingStep_of_full hrx hfull] at h
      cases h

/-- Settles O40: one lemma for the rows of each dispatcher state. -/
theorem dispatcherMovesByTheTable : Obligations.DispatcherMovesByTheTable := by
  intro s t hr h
  refine ⟨fun hds => step_ds_of_resting hr (State.busy_eq_false.mpr hds) h, fun hds => ?_, fun hds => ?_, fun hds => ?_,
    fun hds => ?_⟩
  · rw [step_of_opening hr hds] at h
    cases h
    exact openingStep_ds hds
  · rw [step_of_writing hr hds] at h
    cases h
    exact writingStep_ds hds
  · rw [step_of_reading hr hds] at h
    obtain ⟨u, hu, hut⟩ := andThen_eq_next.mp h
    cases hut
    exact (readingStep_ds hds hu :)
  · rw [step_of_outcome hr hds] at h
    cases h
    rfl

end Sys2Proof.Machine
end

section
/-! Noninterference of the transport inputs a state does not look at (43_bus_dispatcher R178): a step is followed from the same
state under two tapes of input records, and only what is looked at has to agree. -/

namespace Sys2Proof.Machine

/-- `s` under another tape of input records. -/
def State.withInputs (m : List Input) (s : State) : State := { s with inputs := m }

/-- Two input records alike in the transport inputs that the dispatcher state `d` looks at (R178). -/
def DispState.LooksAlike (d : DispState) (i j : Input) : Prop :=
  match d with
  | .opening => i.openRsp = j.openRsp
  | .writing => i.txRsp = j.txRsp
  | .reading => i.rx = j.rx ∧ i.tick = j.tick
  | _ => True

theorem DispState.LooksAlike.refl (d : DispState) (i : Input) : d.LooksAlike i i := by
  cases d <;> simp [DispState.LooksAlike]

section
variable (m : List Input) (s : State)

/-! No operation looks at an input record. -/

theorem whenResting_withInputs {effect : State → State} (h : effect (s.withInputs m) = (effect s).withInputs m) :
    whenResting (s.withInputs m) effect = (whenResting s effect).withInputs m := by
  have hsame : (s.withInputs m).busy = s.busy := rfl
  rw [whenResting, whenResting, hsame, h]
  split <;> rfl

theorem cksumEffect_withInputs : cksumEffect (s.withInputs m) = (cksumEffect s).withInputs m := by
  have hsame : operandsAreBytes (s.withInputs m) = operandsAreBytes s := rfl
  rw [cksumEffect, cksumEffect, hsame]
  split <;> rfl

theorem buildEffect_withInputs : buildEffect (s.withInputs m) = (buildEffect s).withInputs m := by
  have hsame : operandsAreBytes (s.withInputs m) = operandsAreBytes s := rfl
  rw [buildEffect, buildEffect, hsame]
  split <;> rfl

theorem sendEffect_withInputs (port : Byte) (ct : BitVec 4) :
    sendEffect port ct (s.withInputs m) = (sendEffect port ct s).withInputs m := by
  rcases sendEffect_cases port ct s with ⟨hct, he⟩ | ⟨hct, hv, he⟩ | ⟨hct, hv, he⟩ <;> rw [he]
  · exact sendEffect_unrecognized hct
  · exact sendEffect_noFrame hct hv
  · exact sendEffect_accepted hct hv

theorem decodeEffect_withInputs : decodeEffect (s.withInputs m) = (decodeEffect s).withInputs m := by
  have hlen : (s.withInputs m).rspLen = s.rspLen := rfl
  have hbytes (n : Nat) : elementsAreBytes (s.withInputs m) n = elementsAreBytes s n := rfl
  simp only [decodeEffect, hlen, hbytes]
  split
  · rfl
  · split <;> rfl

theorem istatEffect_withInputs (ct : BitVec 4) : istatEffect ct (s.withInputs m) = (istatEffect ct s).withInputs m := by
  have hlen : (s.withInputs m).rspLen = s.rspLen := rfl
  have hbytes (n : Nat) : elementsAreBytes (s.withInputs m) n = elementsAreBytes s n := rfl
  simp only [istatEffect, hlen, hbytes]
  split
  · rfl
  · split <;> rfl

theorem exec_withInputs {d : HostWord} {i : Instr} (hd : decodeOp d = .ok i) :
    exec i (s.withInputs m) = andThen (exec i s) fun t => .next (t.withInputs m) := by
  rcases decodeOp_cases hd with ⟨_, rfl⟩ | ⟨_, rfl⟩ | ⟨_, rfl⟩ | ⟨_, rfl⟩ | ⟨_, rfl⟩ | ⟨_, rfl⟩ | ⟨_, rfl⟩ <;>
    refine congrArg _ (whenResting_withInputs m s ?_)
  · exact cksumEffect_withInputs m s
  · exact buildEffect_withInputs m s
  · rfl
  · rfl
  · exact sendEffect_withInputs m s _ _
  · exact decodeEffect_withInputs m s
  · exact istatEffect_withInputs m s _

theorem storeRegister_withInputs (a : RegNum) (d : HostWord) :
    storeRegister a d (s.withInputs m) = (storeRegister a d s).withInputs m := by
  unfold storeRegister
  split <;> rfl

/-- The host's part of the step looks at the host's access alone. -/
theorem hostPhase_withInputs (h : (s.withInputs m).input.host = s.input.host) :
    hostPhase (s.withInputs m) = andThen (hostPhase s) fun t => .next (t.withInputs m) := by
  unfold hostPhase
  rw [h]
  cases s.input.host with
  | none => rfl
  | read a => rfl
  | write a d =>
    dsimp only
    split
    · cases hd : decodeOp d with
      | ok i =>
        simp only [startOperation, hd]
        exact exec_withInputs m s hd
      | error e =>
        simp only [startOperation, hd]
        exact congrArg _ (whenResting_withInputs m s rfl)
    · exact congrArg _ (whenResting_withInputs m s (storeRegister_withInputs m s a d))

theorem openingStep_withInputs (h : (s.withInputs m).input.openRsp = s.input.openRsp) :
    openingStep (s.withInputs m) = (openingStep s).withInputs m := by
  unfold openingStep
  rw [h]
  cases s.input.openRsp <;> rfl

theorem writingStep_withInputs (h : (s.withInputs m).input.txRsp = s.input.txRsp) :
    writingStep (s.withInputs m) = (writingStep s).withInputs m := by
  unfold writingStep
  rw [h]
  cases s.input.txRsp <;> rfl

theorem tickStep_withInputs (h : (s.withInputs m).input.tick = s.input.tick) :
    tickStep (s.withInputs m) = andThen (tickStep s) fun t => .next (t.withInputs m) := by
  have hsame : (s.withInputs m).tmr = s.tmr := rfl
  unfold tickStep
  rw [h, hsame]
  split
  · split
    · rfl
    · split <;> rfl
  · rfl

theorem readingStep_withInputs (hds : s.ds = .reading) (hrx : (s.withInputs m).input.rx = s.input.rx)
    (htick : (s.withInputs m).input.tick = s.input.tick) :
    readingStep (s.withInputs m) = andThen (readingStep s) fun t => .next (t.withInputs m) := by
  cases hi : s.input.rx with
  | none =>
    rw [readingStep_of_none hi, readingStep_of_none (hrx.trans hi)]
    exact tickStep_withInputs m s htick
  | fault =>
    rw [readingStep_of_fault hi, readingStep_of_fault (hrx.trans hi)]
    rfl
  | byte b =>
    rcases receiveByte_cases b s with ⟨hk, hlast, _⟩ | ⟨hk, hmore, _⟩ | ⟨hfull, _⟩
    · rw [readingStep_of_completing hi hk hlast]
      exact readingStep_of_completing (s := s.withInputs m) (hrx.trans hi) hk hlast
    · rw [readingStep_of_byte hds hi hk hmore]
      exact (readingStep_of_byte (s := s.withInputs m) hds (hrx.trans hi) hk hmore).trans
        (tickStep_withInputs m (storeByteAt b s _ hk) htick)
    · rw [readingStep_of_full hi hfull]
      exact readingStep_of_full (s := s.withInputs m) (hrx.trans hi) hfull

/-- A transition of the dispatcher looks at the inputs of its own state alone (R178). -/
theorem dispatcherPhase_withInputs (h : s.ds.LooksAlike (s.withInputs m).input s.input) :
    dispatcherPhase (s.withInputs m) = andThen (dispatcherPhase s) fun t => .next (t.withInputs m) := by
  have hsame : (s.withInputs m).ds = s.ds := rfl
  unfold dispatcherPhase
  rw [hsame]
  cases hds : s.ds <;> rw [hds] at h
  case opening => exact congrArg _ (openingStep_withInputs m s h)
  case writing =>
    dsimp only
    rw [writePhase_eq hds, writePhase_eq (hsame.trans hds), andThen_next, writingStep_withInputs m s h]
  case reading =>
    obtain ⟨hrx, htick⟩ := h
    exact readingStep_withInputs m s hds hrx htick
  all_goals rfl

end

/-- What a step does beside its transition depends on the host's access alone. -/
theorem State.stepped_withInputs {s : State} {k : Input} (l : List Input) (hhost : k.host = s.input.host) :
    (s.withInputs (k :: l)).stepped = s.stepped.withInputs l := by
  unfold State.stepped
  rw [show (s.withInputs (k :: l)).input.host = s.input.host from hhost]
  rfl

/-- A step under another tape, whose first record agrees with the sampled one in `rst`, the host's access and what the
dispatcher state looks at: the same step, with the rest of that tape. -/
theorem step_withInputs {s : State} {k : Input} (l : List Input) (hrst : k.rst = s.input.rst) (hhost : k.host = s.input.host)
    (hlooks : s.ds.LooksAlike k s.input) :
    step (s.withInputs (k :: l)) = andThen (step s) fun t => .next (t.withInputs l) := by
  cases hr : s.input.rst with
  | true =>
    rw [step_of_rst hr, step_of_rst (s := s.withInputs (k :: l)) (hrst.trans hr)]
    rfl
  | false =>
    have hr' : (s.withInputs (k :: l)).input.rst = false := hrst.trans hr
    cases hb : s.busy with
    | true =>
      rw [step_of_busy_eq hr hb, step_of_busy_eq hr' hb, dispatcherPhase_withInputs (k :: l) s hlooks,
        State.stepped_withInputs l hhost, andThen_assoc, andThen_assoc]
      rfl
    | false =>
      rw [step_of_resting hr hb, step_of_resting hr' hb, hostPhase_withInputs (k :: l) s hhost, andThen_assoc, andThen_assoc]
      rfl

/-- Settles O38: both tapes give the step of the second with the same rest of the tape, since of the transport's inputs only those
that the state looks at have to agree. -/
theorem unlistedInputsAreIgnored : Obligations.UnlistedInputsAreIgnored := by
  intro s i j l hrst hhost hopening hwriting hreading
  have hlooks : s.ds.LooksAlike i j := by
    cases hds : s.ds
    case opening => exact hopening hds
    case writing => exact hwriting hds
    case reading => exact hreading hds
    all_goals trivial
  calc step (s.withInputs (i :: l))
      = andThen (step (s.withInputs (j :: l))) fun t => .next (t.withInputs l) :=
        step_withInputs (s := s.withInputs (j :: l)) l hrst hhost hlooks
    _ = step (s.withInputs (j :: l)) :=
        (step_withInputs (s := s.withInputs (j :: l)) l rfl rfl (.refl s.ds j)).symm

end Sys2Proof.Machine
end

section
/-! Reset within a step (70_reset_and_hazards R230), and the model's own fields along a run: the configuration, the input tape and the
clock (R233). -/

namespace Sys2Proof.Machine

theorem hrdata_of_read {s : State} {a : RegNum} (h : s.input.host = .read a) : hrdata s = some (hostRead s a) := by
  simp [hrdata, h]

/-- Settles O23: the step is `step_of_rst`, and `hrdata` looks at the state before it without asking for `rst`. -/
theorem resetOverridesTheStep : Obligations.ResetOverridesTheStep :=
  fun _ hr => ⟨step_of_rst hr, fun _ hread => hrdata_of_read hread⟩

/-- The model's own fields: the configuration, the input tape and the clock. -/
def State.ownFields (s : State) : Config × List Input × Nat := (s.cfg, s.inputs, s.clock)

theorem storeRegister_ownFields (a : RegNum) (d : HostWord) (s : State) : (storeRegister a d s).ownFields = s.ownFields := by
  rcases storeRegister_cases a d s with h | h | h | h | ⟨_, h⟩ | h | h <;> rw [h] <;> rfl

/-- Using up the input record acts on the own fields alone. -/
theorem State.advance_ownFields_congr {s u : State} (h : u.ownFields = s.ownFields) :
    u.advance.ownFields = s.advance.ownFields :=
  congrArg (fun (c, l, k) => (c, l.tail, k + 1)) h

/-- Whatever else a step does, reset included, to the own fields it does no more than use up its input record. -/
theorem step_ownFields {s t : State} (h : step s = .next t) : t.ownFields = s.advance.ownFields := by
  cases hr : s.input.rst with
  | true =>
    rw [step_of_rst hr] at h
    cases h
    rfl
  | false =>
    cases hb : s.busy with
    | true => exact (congrArg State.ownFields (step_busy_exchange hr hb h)).trans rfl
    | false =>
      rcases step_resting_cases hr hb h with ⟨_, rfl⟩ | ⟨d, i, u, _, hd, hu, rfl⟩ | ⟨_, _, _, _, rfl⟩ | ⟨a, d, _, _, rfl⟩
      · rfl
      · have hkept : u.ownFields = s.ownFields := (congrArg State.ownFields (exec_operation hb hd hu)).trans rfl
        exact State.advance_ownFields_congr hkept
      · rfl
      · exact State.advance_ownFields_congr (storeRegister_ownFields a d s)

theorem runsTo_ownFields {n : Nat} {s t : State} (h : RunsTo n s t) :
    t.ownFields = (s.cfg, s.inputs.drop n, s.clock + n) := by
  induction n generalizing s with
  | zero =>
    cases h
    rfl
  | succ n ih =>
    obtain ⟨u, hstep, hrun⟩ := h
    have hu : u.ownFields = (s.cfg, s.inputs.tail, s.clock + 1) := step_ownFields hstep
    simp only [State.ownFields, Prod.mk.injEq] at hu
    obtain ⟨hcfg, hinputs, hclock⟩ := hu
    rw [ih hrun, hcfg, hinputs, hclock, List.drop_tail, Nat.add_right_comm, Nat.add_assoc]

/-- Settles O50, by induction on the number of steps (`runsTo_ownFields`). -/
theorem configurationNeverChanges : Obligations.ConfigurationNeverChanges := by
  intro n s t h
  have hown := runsTo_ownFields h
  simpa only [State.ownFields, Prod.mk.injEq] using hown

end Sys2Proof.Machine
end

section
/-! The branches of the operations' effects at rest and of the dispatcher's transitions, as one disjunction for each
(40_checksum_engine R114, 41_frame_builder R122, 42_response_decoder R141, R149, 43_bus_dispatcher R173 to R176, R186), and that a
decoded operation always answers. -/

namespace Sys2Proof.Machine

theorem cksumEffect_cases (s : State) :
    (∃ c : Byte, cksumEffect s = succeed 1#4 (s.withCks c)) ∨ cksumEffect s = raiseError .malformedInput 1#4 s := by
  cases h : operandsAreBytes s with
  | true => exact .inl ⟨_, cksumEffect_of_bytes h⟩
  | false => exact .inr (cksumEffect_of_not_bytes h)

theorem buildEffect_cases (s : State) :
    buildEffect s = succeed 2#4 ((s.withFrame (builtFrame s) true).withCks (builtFrame s).checksum) ∨
    buildEffect s = raiseError .malformedInput 2#4 (s.withFrame zeroFrame false) := by
  cases h : operandsAreBytes s with
  | true => exact .inl (buildEffect_of_bytes h)
  | false => exact .inr (buildEffect_of_not_bytes h)

theorem decodeEffect_cases (s : State) :
    decodeEffect s = raiseError .malformedInput 6#4 (s.withGroups zeroGroups 0#3) ∨
    decodeEffect s = succeed 6#4 (s.withGroups (queryAllGroups s) 3#3) ∨
    (s.rspLen.toNat ≤ 6 ∧
      decodeEffect s = succeed 6#4 (s.withGroups (wholeGroups s s.rspLen.toNat) (s.rspLen.setWidth 3))) := by
  cases hbytes : elementsAreBytes s s.rspLen.toNat with
  | false => exact .inl (decodeEffect_of_malformed (.inr hbytes))
  | true =>
    rcases Nat.lt_trichotomy s.rspLen.toNat 7 with hlen | hlen | hlen
    · exact .inr (.inr ⟨by omega, decodeEffect_of_le_six_bytes (by omega) hbytes⟩)
    · exact .inr (.inl (decodeEffect_of_seven_bytes hlen (hlen ▸ hbytes)))
    · exact .inl (decodeEffect_of_malformed (.inl hlen))

theorem istatEffect_cases (ct : BitVec 4) (s : State) :
    istatEffect ct s = raiseError .unrecognizedCommandType 7#4 (s.withIstat .none) ∨
    istatEffect ct s = raiseError .malformedInput 7#4 (s.withIstat .none) ∨
    istatEffect ct s = succeed 7#4 (s.withIstat (doorClass ct (lowByte s.rsp[3]))) := by
  rcases Nat.lt_or_ge 3 ct.toNat with hct | hct
  · exact .inl (istatEffect_of_unrecognized hct s)
  · by_cases h : s.rspLen ≠ 5#4 ∨ elementsAreBytes s 5 = false
    · exact .inr (.inl (istatEffect_of_malformed hct h))
    · simp only [ne_eq, not_or, not_not, Bool.not_eq_false] at h
      obtain ⟨hlen, hbytes⟩ := h
      exact .inr (.inr (istatEffect_of_five_bytes hct hlen hbytes))

/-- An operation answers in every state, busy or at rest. -/
theorem exec_operation_answers {d : HostWord} {i : Instr} (hd : decodeOp d = .ok i) (s : State) :
    ∃ u : State, exec i s = .next u := by
  rcases decodeOp_cases hd with ⟨_, rfl⟩ | ⟨_, rfl⟩ | ⟨_, rfl⟩ | ⟨_, rfl⟩ | ⟨_, rfl⟩ | ⟨_, rfl⟩ | ⟨_, rfl⟩ <;>
    exact ⟨_, rfl⟩

/-- What a step in READING can be: the tick alone, a fault, the byte that completes the reply, or another byte and the tick. -/
theorem readingStep_next_cases {s t : State} (hds : s.ds = .reading) (h : readingStep s = .next t) :
    (s.input.rx = .none ∧ tickStep s = .next t) ∨
    (s.input.rx = .fault ∧ t = enterTfault s) ∨
    (∃ (b : Byte) (hk : s.rxcnt.toNat < 7), s.input.rx = .byte b ∧ s.rxcnt.toNat + 1 = explen s.dct ∧
      t = enterSuccess (storeByteAt b s s.rxcnt.toNat hk)) ∨
    (∃ (b : Byte) (hk : s.rxcnt.toNat < 7), s.input.rx = .byte b ∧ s.rxcnt.toNat + 1 ≠ explen s.dct ∧
      tickStep (storeByteAt b s s.rxcnt.toNat hk) = .next t) := by
  cases hrx : s.input.rx with
  | none => exact .inl ⟨rfl, readingStep_of_none hrx ▸ h⟩
  | fault =>
    rw [readingStep_of_fault hrx] at h
    cases h
    exact .inr (.inl ⟨rfl, rfl⟩)
  | byte b =>
    rcases receiveByte_cases b s with ⟨hk, hlast, _⟩ | ⟨hk, hmore, _⟩ | ⟨hfull, _⟩
    · rw [readingStep_of_completing hrx hk hlast] at h
      cases h
      exact .inr (.inr (.inl ⟨b, hk, rfl, hlast, rfl⟩))
    · exact .inr (.inr (.inr ⟨b, hk, rfl, hmore, readingStep_of_byte hds hrx hk hmore ▸ h⟩))
    · rw [readingStep_of_full hrx hfull] at h
      cases h

/-- What a transition of the dispatcher can be, by the state it starts from. -/
theorem dispatcherPhase_next_cases {s t : State} (h : dispatcherPhase s = .next t) :
    (s.ds = .opening ∧ t = openingStep s) ∨ (s.ds = .writing ∧ t = writingStep s) ∨
    (s.ds = .reading ∧ readingStep s = .next t) ∨ (s.ds.isOutcome = true ∧ t = leaveOutcome s) ∨
    (s.busy = false ∧ t = s) := by
  unfold dispatcherPhase at h
  cases hds : s.ds <;> rw [hds] at h
  case opening => cases h; exact .inl ⟨rfl, rfl⟩
  case writing => rw [writePhase_eq hds] at h; cases h; exact .inr (.inl ⟨rfl, rfl⟩)
  case reading => exact .inr (.inr (.inl ⟨rfl, h⟩))
  case idle => cases h; exact .inr (.inr (.inr (.inr ⟨State.busy_eq_false.mpr (.inl hds), rfl⟩)))
  case closed => cases h; exact .inr (.inr (.inr (.inr ⟨State.busy_eq_false.mpr (.inr hds), rfl⟩)))
  all_goals cases h; exact .inr (.inr (.inr (.inl ⟨rfl, rfl⟩)))

end Sys2Proof.Machine
end

section
/-! The frame invariant (41_frame_builder R124) of the frames that the Frame Builder makes. -/

namespace Sys2Proof.Machine

/-- The checksum byte is the engine's over the other four. -/
def SealedFrame (f : Frame) : Prop := f.checksum = cks8 f.header f.board f.func f.lock

theorem sealedFrame_builtFrame (s : State) : SealedFrame (builtFrame s) := rfl

theorem sealedFrame_unlockAllTemplate : SealedFrame unlockAllTemplate := by
  unfold SealedFrame
  decide

/-- Whatever `QUERY_FC` is: the header and the board byte give 0x81, the lock byte is 0. -/
theorem sealedFrame_queryAllTemplate (q : Byte) : SealedFrame (queryAllTemplate q) := by
  simp [SealedFrame, queryAllTemplate, cks8]

end Sys2Proof.Machine
end

section
/-! The invariants of 10_state R42 under each update of a state at rest, and so under each operation. -/

namespace Sys2Proof.Machine

theorem State.busy_of_inExchange {s : State} (h : s.ds.inExchange = true) : s.busy = true := by
  unfold State.busy
  cases hds : s.ds <;> simp [hds, DispState.inExchange, DispState.busy] at h ⊢

/-- What the invariants still say of a state at rest: the connection is closed, and the frame, `RESULT`, the group list and the latched
type are as always. -/
theorem CoreInv.of_resting {s : State} (hb : s.busy = false) (hconn : s.conn = false)
    (hframe : s.txv = true → SealedFrame s.txf) (herr : s.result.err ≠ .none ↔ s.result.tag = .failure)
    (hcount : s.dgn.toNat ≤ 6) (hpad : ∀ i : Fin 6, s.dgn.toNat ≤ i.val → s.dg[i] = 0#8) (hct : s.dct.toNat ≤ 3) :
    CoreInv s where
  connOnlyInDispatch hc := by simp [hconn] at hc
  connHeld hds := by rcases State.busy_eq_false.mp hb with hr | hr <;> simp [hr] at hds
  frameSealed := hframe
  errMatchesTag := herr
  groupCount := hcount
  groupsPadded := hpad
  timerInWindow hds := by simp [State.busy_eq_decide, hds] at hb
  replyIncomplete hds := by simp [State.busy_eq_decide, hds] at hb
  typeLatched := hct
  replyBytes hbusy := by simp [hb] at hbusy
  noOutcomeYet hx := by simp [State.busy_of_inExchange hx] at hb

/-- Settles O41: the reset state is at rest with nothing connected, no frame, no result and no groups. -/
theorem resetMeetsInvariants : Obligations.ResetMeetsInvariants :=
  .of_resting rfl rfl (by simp [State.reset]) (by decide) (by decide) (by decide) (by decide)

variable {s : State}

theorem CoreInv.conn_of_resting (h : CoreInv s) (hb : s.busy = false) : s.conn = false := by
  by_contra hc
  have hds := h.connOnlyInDispatch (by simpa using hc)
  rcases State.busy_eq_false.mp hb with hr | hr <;> simp [hr, DispState.isOutcome] at hds

/-! The model's own fields, the operand registers, `CKS`, `ISTAT` and the sticky flags stand in no invariant. -/

theorem CoreInv.advance (h : CoreInv s) : CoreInv s.advance := { h with }

theorem CoreInv.refusing (h : CoreInv s) : CoreInv s.refusing := { h with }

theorem CoreInv.withCks {c : Byte} (h : CoreInv s) : CoreInv (s.withCks c) := { h with }

theorem CoreInv.withIstat {c : DoorClass} (h : CoreInv s) : CoreInv (s.withIstat c) := { h with }

theorem CoreInv.withIll (h : CoreInv s) : CoreInv s.withIll := { h with }

theorem CoreInv.withFrame {f : Frame} {v : Bool} (h : CoreInv s) (hf : v = true → SealedFrame f) :
    CoreInv (s.withFrame f v) := { h with frameSealed := hf }

theorem CoreInv.withGroups {g : Vector Byte 6} {n : BitVec 3} (h : CoreInv s) (hn : n.toNat ≤ 6)
    (hg : ∀ i : Fin 6, n.toNat ≤ i.val → g[i] = 0#8) : CoreInv (s.withGroups g n) :=
  { h with groupCount := hn, groupsPadded := hg }

theorem CoreInv.withResult {r : Result} (h : CoreInv s) (hb : s.busy = false) (hr : r.err ≠ .none ↔ r.tag = .failure) :
    CoreInv (s.withResult r) :=
  { h with
    errMatchesTag := hr
    noOutcomeYet := fun hx => absurd (State.busy_of_inExchange hx) (by simp [hb]) }

theorem CoreInv.succeed {op : BitVec 4} (h : CoreInv s) (hb : s.busy = false) : CoreInv (succeed op s) :=
  h.withResult hb (by simp)

theorem CoreInv.raiseError {k : ErrorKind} {op : BitVec 4} (h : CoreInv s) (hb : s.busy = false) (hk : k ≠ .none) :
    CoreInv (raiseError k op s) :=
  h.withResult hb (by simp [hk])

theorem CoreInv.storeRegister (h : CoreInv s) (hb : s.busy = false) (a : RegNum) (d : HostWord) :
    CoreInv (storeRegister a d s) := by
  have hnot {p : Prop} (hbusy : s.busy = true) : p := absurd hbusy (by simp [hb])
  rcases storeRegister_cases a d s with he | he | he | he | ⟨_, he⟩ | he | he <;> rw [he]
  case inr.inr.inr.inr.inl => exact { h with replyBytes := fun hbusy => hnot hbusy }
  case inr.inr.inr.inr.inr.inl => exact { h with noOutcomeYet := fun hx => hnot (State.busy_of_inExchange hx) }
  all_goals exact { h with }

theorem cksumEffect_inv (h : CoreInv s) (hb : s.busy = false) : CoreInv (cksumEffect s) := by
  rcases cksumEffect_cases s with ⟨c, he⟩ | he <;> rw [he]
  · exact .succeed h.withCks hb
  · exact h.raiseError hb (by decide)

theorem buildEffect_inv (h : CoreInv s) (hb : s.busy = false) : CoreInv (buildEffect s) := by
  rcases buildEffect_cases s with he | he <;> rw [he]
  · exact .succeed (.withCks (h.withFrame fun _ => sealedFrame_builtFrame s)) hb
  · exact .raiseError (h.withFrame (by simp)) hb (by decide)

theorem tpluaEffect_inv (h : CoreInv s) (hb : s.busy = false) : CoreInv (tpluaEffect s) :=
  .succeed (h.withFrame fun _ => sealedFrame_unlockAllTemplate) hb

theorem tplqaEffect_inv (h : CoreInv s) (hb : s.busy = false) : CoreInv (tplqaEffect s) :=
  .succeed (h.withFrame fun _ => sealedFrame_queryAllTemplate _) hb

theorem zeroGroups_getElem (i : Fin 6) : zeroGroups[i] = 0#8 := by
  simp [zeroGroups]

/-- A reply of seven elements has three groups, then padding (42_response_decoder R143). -/
theorem queryAllGroups_padded (s : State) (i : Fin 6) (hi : 3 ≤ i.val) : (queryAllGroups s)[i] = 0#8 := by
  fin_cases i <;> simp at hi <;> rfl

theorem decodeEffect_inv (h : CoreInv s) (hb : s.busy = false) : CoreInv (decodeEffect s) := by
  rcases decodeEffect_cases s with he | he | ⟨hlen, he⟩ <;> rw [he]
  · exact .raiseError (h.withGroups (by decide) fun i _ => zeroGroups_getElem i) hb (by decide)
  · exact .succeed (h.withGroups (by decide) (queryAllGroups_padded s)) hb
  · have hn : (s.rspLen.setWidth 3).toNat = s.rspLen.toNat := by
      rw [BitVec.toNat_setWidth]
      omega
    refine .succeed (h.withGroups (by omega) fun i hi => ?_) hb
    rw [wholeGroups_getElem, if_neg (by omega)]

theorem istatEffect_inv (h : CoreInv s) (hb : s.busy = false) (ct : BitVec 4) : CoreInv (istatEffect ct s) := by
  rcases istatEffect_cases ct s with he | he | he <;> rw [he]
  · exact .raiseError h.withIstat hb (by decide)
  · exact .raiseError h.withIstat hb (by decide)
  · exact .succeed h.withIstat hb

theorem zeroRsp_getElem (i : Fin 7) : zeroRsp[i] = 0#16 := by
  simp [zeroRsp]

theorem zeroRsp_isByte (i : Fin 7) : isByte zeroRsp[i] = true := by
  rw [zeroRsp_getElem]
  rfl

/-- A rejected SEND leaves the core at rest, with a failure of kind `k` and the groups cleared. -/
theorem rejectSend_inv (h : CoreInv s) (hb : s.busy = false) {k : ErrorKind} (hk : k ≠ .none) :
    CoreInv (rejectSend k (sendCommon s)) :=
  .of_resting rfl (h.conn_of_resting hb) h.frameSealed (by simp [hk]) (by simp) (fun i _ => zeroGroups_getElem i)
    h.typeLatched

/-- An accepted SEND waits in OPENING with the response and the groups cleared, and the connection still closed. -/
theorem acceptSend_inv (h : CoreInv s) (hb : s.busy = false) {ct : BitVec 4} (hct : ct.toNat ≤ 3) (port : Byte) :
    CoreInv (acceptSend port ct (sendCommon s)) where
  connOnlyInDispatch hc := absurd hc (by simp [h.conn_of_resting hb])
  connHeld := by simp
  frameSealed := h.frameSealed
  errMatchesTag := by simp
  groupCount := by simp
  groupsPadded i _ := zeroGroups_getElem i
  timerInWindow := by simp
  replyIncomplete := by simp
  typeLatched := hct
  replyBytes _ := zeroRsp_isByte
  noOutcomeYet _ := ⟨rfl, rfl⟩

theorem sendEffect_inv (h : CoreInv s) (hb : s.busy = false) (port : Byte) (ct : BitVec 4) :
    CoreInv (sendEffect port ct s) := by
  rcases sendEffect_cases port ct s with ⟨_, he⟩ | ⟨_, _, he⟩ | ⟨hct, _, he⟩ <;> rw [he]
  · exact rejectSend_inv h hb (by decide)
  · exact rejectSend_inv h hb (by decide)
  · exact acceptSend_inv h hb hct port

/-- Every operation at rest keeps the invariants. -/
theorem exec_inv {d : HostWord} {i : Instr} {u : State} (h : CoreInv s) (hb : s.busy = false) (hd : decodeOp d = .ok i)
    (hu : exec i s = .next u) : CoreInv u := by
  rcases exec_resting_cases hb hd hu with ⟨_, rfl⟩ | ⟨_, rfl⟩ | ⟨_, rfl⟩ | ⟨_, rfl⟩ | ⟨_, rfl⟩ | ⟨_, rfl⟩ | ⟨_, rfl⟩
  · exact cksumEffect_inv h hb
  · exact buildEffect_inv h hb
  · exact tpluaEffect_inv h hb
  · exact tplqaEffect_inv h hb
  · exact sendEffect_inv h hb _ _
  · exact decodeEffect_inv h hb
  · exact istatEffect_inv h hb _

end Sys2Proof.Machine
end

section
/-! The invariants of 10_state R42 under each transition of the dispatcher, and under every step. -/

namespace Sys2Proof.Machine

/-- The window of every command type is one the timer can hold (43_bus_dispatcher R172). -/
theorem tq_in_window (ct : BitVec 4) : 1 ≤ (tq ct).toNat ∧ (tq ct).toNat ≤ 40 := by
  decide +revert

theorem explen_pos (ct : BitVec 4) : 0 < explen ct := by
  decide +revert

variable {s t : State}

/-- A failing dispatch shows its kind of error and drops the response; TIMEOUT is entered with the connection open. -/
theorem CoreInv.enterFailure {d : DispState} {k : ErrorKind} (h : CoreInv s)
    (hd : d = .timeout ∧ s.conn = true ∨ d = .tfault) (hk : k ≠ .none) : CoreInv (enterFailure d k s) := by
  have hout : d.isOutcome = true ∧ d ≠ .writing ∧ d ≠ .reading ∧ d.inExchange = false := by
    rcases hd with ⟨rfl, _⟩ | rfl <;> decide
  obtain ⟨hout, hwriting, hreading, hx⟩ := hout
  exact { h with
    connOnlyInDispatch := fun _ => .inr (.inr hout)
    connHeld := fun hds => by
      rcases hd with ⟨_, hc⟩ | rfl
      · exact hc
      · simp at hds
    errMatchesTag := by simp [hk]
    timerInWindow := fun hds => absurd hds hreading
    replyIncomplete := fun hds => absurd hds hreading
    replyBytes := fun _ => zeroRsp_isByte
    noOutcomeYet := fun hxd => absurd hxd (by simp [hx]) }

theorem CoreInv.enterTfault (h : CoreInv s) : CoreInv (enterTfault s) :=
  h.enterFailure (.inr rfl) (by decide)

theorem CoreInv.enterTimeout (h : CoreInv s) (hc : s.conn = true) : CoreInv (enterTimeout s) :=
  h.enterFailure (.inl ⟨rfl, hc⟩) (by decide)

/-- The timer is bound to the window in READING only. -/
theorem CoreInv.withTmr {n : BitVec 6} (h : CoreInv s) (hn : s.ds = .reading → 1 ≤ n.toNat ∧ n.toNat ≤ 40) :
    CoreInv (s.withTmr n) :=
  { h with timerInWindow := hn }

theorem openingStep_inv (h : CoreInv s) (hds : s.ds = .opening) : CoreInv (openingStep s) := by
  have hx : s.ds.inExchange = true := by rw [hds]; rfl
  rcases openingStep_cases s with ⟨_, he⟩ | ⟨_, he⟩ | ⟨_, he⟩ <;> rw [he]
  · exact h
  · exact { h with
      connOnlyInDispatch := fun _ => .inl rfl
      connHeld := fun _ => rfl
      timerInWindow := by simp
      replyIncomplete := by simp
      replyBytes := fun _ => h.replyBytes (State.busy_of_inExchange hx)
      noOutcomeYet := fun _ => h.noOutcomeYet hx }
  · exact h.enterTfault

theorem writingStep_inv (h : CoreInv s) (hds : s.ds = .writing) : CoreInv (writingStep s) := by
  have hx : s.ds.inExchange = true := by rw [hds]; rfl
  rcases writingStep_cases s with ⟨_, he⟩ | ⟨_, he⟩ | ⟨_, he⟩ <;> rw [he]
  · exact h
  · exact { h with
      connOnlyInDispatch := fun _ => .inr (.inl rfl)
      connHeld := fun _ => h.connHeld (.inl hds)
      timerInWindow := fun _ => tq_in_window s.dct
      replyIncomplete := fun _ => explen_pos s.dct
      replyBytes := fun _ => h.replyBytes (State.busy_of_inExchange hx)
      noOutcomeYet := fun _ => h.noOutcomeYet hx }
  · exact h.enterTfault

/-- A received byte is stored as a byte (43_bus_dispatcher R173). -/
theorem set_zext16_isByte {r : Vector HostWord 7} (h : ∀ i : Fin 7, isByte r[i] = true) (b : Byte) {k : Nat} (hk : k < 7)
    (i : Fin 7) : isByte (r.set k (zext16 b) hk)[i] = true := by
  have hb : isByte (b.setWidth 16) = true := by simp [isByte]; omega
  rw [getElem_set_zext16]
  split
  · exact hb
  · exact h i

section
variable (h : CoreInv s) (hds : s.ds = .reading)
include h hds

/-- In READING the connection is open, the response holds bytes and no outcome is shown. -/
theorem CoreInv.of_reading :
    s.conn = true ∧ (∀ i : Fin 7, isByte s.rsp[i] = true) ∧ s.rspLen = 0#4 ∧ s.result.tag = .none := by
  have hx : s.ds.inExchange = true := by rw [hds]; rfl
  exact ⟨h.connHeld (.inr (.inl hds)), h.replyBytes (State.busy_of_inExchange hx), h.noOutcomeYet hx⟩

/-- A byte that leaves the reply incomplete leaves the counter below the reply's length. -/
theorem storeByteAt_inv (b : Byte) (hk : s.rxcnt.toNat < 7) (hmore : s.rxcnt.toNat + 1 ≠ explen s.dct) :
    CoreInv (storeByteAt b s s.rxcnt.toNat hk) := by
  obtain ⟨_, hbytes, _⟩ := h.of_reading hds
  have hcount : (s.rxcnt + 1#3).toNat = s.rxcnt.toNat + 1 := by bv_omega
  have hbelow := h.replyIncomplete hds
  exact { h with
    replyIncomplete := fun _ => show (s.rxcnt + 1#3).toNat < explen s.dct by omega
    replyBytes := fun _ => set_zext16_isByte hbytes b hk }

/-- The byte that completes the reply shows Success, with the connection still open. -/
theorem enterSuccess_storeByteAt_inv (b : Byte) (hk : s.rxcnt.toNat < 7) :
    CoreInv (enterSuccess (storeByteAt b s s.rxcnt.toNat hk)) := by
  obtain ⟨hconn, hbytes, _⟩ := h.of_reading hds
  exact { h with
    connOnlyInDispatch := fun _ => .inr (.inr rfl)
    connHeld := fun _ => hconn
    errMatchesTag := by simp
    timerInWindow := by simp
    replyIncomplete := by simp
    replyBytes := fun _ => set_zext16_isByte hbytes b hk
    noOutcomeYet := by simp [DispState.inExchange] }

theorem tickStep_inv (ht : tickStep s = .next t) : CoreInv t := by
  obtain ⟨hlow, hhigh⟩ := h.timerInWindow hds
  rcases tickStep_cases s with ⟨_, he⟩ | ⟨_, _, hmore, he⟩ | ⟨_, _, _, he⟩ | ⟨_, _, he⟩ <;> rw [he] at ht <;> cases ht
  · exact h
  · exact h.withTmr fun _ => by bv_omega
  · obtain ⟨hconn, _⟩ := h.of_reading hds
    exact CoreInv.withTmr (s := enterTimeout s) (h.enterTimeout hconn) (by simp [enterTimeout])

theorem readingStep_inv (ht : readingStep s = .next t) : CoreInv t := by
  rcases readingStep_next_cases hds ht with ⟨_, ht⟩ | ⟨_, rfl⟩ | ⟨b, hk, _, _, rfl⟩ | ⟨b, hk, _, hmore, ht⟩
  · exact tickStep_inv h hds ht
  · exact h.enterTfault
  · exact enterSuccess_storeByteAt_inv h hds b hk
  · exact tickStep_inv (storeByteAt_inv h hds b hk hmore) hds ht

end

/-- Leaving an outcome state closes the connection and is back at rest. -/
theorem leaveOutcome_inv (h : CoreInv s) : CoreInv (leaveOutcome s) :=
  .of_resting rfl rfl h.frameSealed h.errMatchesTag h.groupCount h.groupsPadded h.typeLatched

theorem dispatcherPhase_inv (h : CoreInv s) (ht : dispatcherPhase s = .next t) : CoreInv t := by
  rcases dispatcherPhase_next_cases ht with ⟨hds, rfl⟩ | ⟨hds, rfl⟩ | ⟨hds, ht⟩ | ⟨_, rfl⟩ | ⟨_, rfl⟩
  · exact openingStep_inv h hds
  · exact writingStep_inv h hds
  · exact readingStep_inv h hds ht
  · exact leaveOutcome_inv h
  · exact h

theorem afterRst_inv (s : State) : CoreInv s.afterRst := { resetMeetsInvariants with }

theorem step_inv (h : CoreInv s) (ht : step s = .next t) : CoreInv t := by
  cases hr : s.input.rst with
  | true =>
    rw [step_of_rst hr] at ht
    cases ht
    exact (afterRst_inv s).advance
  | false =>
    cases hb : s.busy with
    | true =>
      rw [step_of_busy hr hb] at ht
      obtain ⟨u, hu, hut⟩ := andThen_eq_next.mp ht
      cases hut
      exact (dispatcherPhase_inv h.refusing hu).advance
    | false =>
      rcases step_resting_cases hr hb ht with ⟨_, rfl⟩ | ⟨d, i, u, _, hd, hu, rfl⟩ | ⟨_, _, _, _, rfl⟩ | ⟨a, d, _, _, rfl⟩
      · exact h.advance
      · exact (exec_inv h hb hd hu).advance
      · exact h.withIll.advance
      · exact (h.storeRegister hb a d).advance

/-- Settles O42: reset, the host's access at rest and the dispatcher's transition each keep the invariants (`step_inv`). -/
theorem stepKeepsInvariants : Obligations.StepKeepsInvariants :=
  fun _ _ h ht => step_inv h ht

/-! Under the invariants the two faults of READING are out of reach, and nothing else stops a step. -/

theorem tickStep_answers (h : CoreInv s) (hds : s.ds = .reading) : ∃ t : State, tickStep s = .next t := by
  obtain ⟨hlow, _⟩ := h.timerInWindow hds
  rcases tickStep_cases s with ⟨_, he⟩ | ⟨_, _, _, he⟩ | ⟨_, _, _, he⟩ | ⟨_, h0, _⟩
  · exact ⟨_, he⟩
  · exact ⟨_, he⟩
  · exact ⟨_, he⟩
  · simp [h0] at hlow

theorem readingStep_answers (h : CoreInv s) (hds : s.ds = .reading) : ∃ t : State, readingStep s = .next t := by
  cases hrx : s.input.rx with
  | none => rw [readingStep_of_none hrx]; exact tickStep_answers h hds
  | fault => exact ⟨_, readingStep_of_fault hrx⟩
  | byte b =>
    have hroom : s.rxcnt.toNat < 7 := Nat.lt_of_lt_of_le (h.replyIncomplete hds) (explen_le s.dct)
    by_cases hlast : s.rxcnt.toNat + 1 = explen s.dct
    · exact ⟨_, readingStep_of_completing hrx hroom hlast⟩
    · rw [readingStep_of_byte hds hrx hroom hlast]
      exact tickStep_answers (storeByteAt_inv h hds b hroom hlast) hds

theorem dispatcherPhase_answers (h : CoreInv s) : ∃ t : State, dispatcherPhase s = .next t := by
  unfold dispatcherPhase
  cases hds : s.ds
  case writing => exact ⟨_, writePhase_eq hds⟩
  case reading => exact readingStep_answers h hds
  all_goals exact ⟨_, rfl⟩

/-- The host's access at rest never stops the machine. -/
theorem hostPhase_answers (hb : s.busy = false) : ∃ t : State, hostPhase s = .next t := by
  rcases hostPhase_of_resting hb with ⟨_, hp⟩ | ⟨_, _, _, hd, hp⟩ | ⟨_, _, _, _, hp⟩ | ⟨_, _, _, _, hp⟩ <;> rw [hp]
  case inr.inl => exact exec_operation_answers hd s
  all_goals exact ⟨_, rfl⟩

theorem step_answers (h : CoreInv s) : ∃ t : State, step s = .next t := by
  cases hr : s.input.rst with
  | true => exact ⟨_, step_of_rst hr⟩
  | false =>
    cases hb : s.busy with
    | true =>
      obtain ⟨u, hu⟩ := dispatcherPhase_answers h
      exact ⟨_, step_of_transition hr hb hu⟩
    | false =>
      obtain ⟨u, hu⟩ := hostPhase_answers hb
      rw [step_of_resting hr hb, hu]
      exact ⟨_, rfl⟩

/-- Settles O43: a byte finds room and a tick finds the window open, so no transition faults (`step_answers`). -/
theorem noStepStopsUnderInvariants : Obligations.NoStepStopsUnderInvariants :=
  fun _ h => step_answers h

end Sys2Proof.Machine
end

section
/-! What a step reports in `RESULT`: a dispatch nothing or its outcome, an operation a value of the table of 60_exceptions R202. -/

namespace Sys2Proof.Machine

theorem State.inExchange_of_resting {s : State} (hb : s.busy = false) : s.ds.inExchange = false := by
  rcases State.busy_eq_false.mp hb with h | h <;> rw [h] <;> rfl

variable {s t : State}

/-- The table looks at `RESULT` and at whether a dispatch waits or collects, at nothing else. -/
theorem ResultLegal.congr (h : ResultLegal s) (hx : t.ds.inExchange = s.ds.inExchange) (hr : t.result = s.result) :
    ResultLegal t := by
  unfold ResultLegal
  rwa [hx, hr]

theorem resultLegal_of_settled (hx : s.ds.inExchange = false) (hr : s.result.word ∈ settledResults) : ResultLegal s := by
  simpa [ResultLegal, hx] using hr

/-- An operation that reports a value of the table outside a dispatch. -/
theorem resultLegal_withResult {r : Result} (hx : s.ds.inExchange = false) (hr : r.word ∈ settledResults) :
    ResultLegal (s.withResult r) :=
  resultLegal_of_settled hx hr

theorem rejectSend_resultLegal {k : ErrorKind}
    (hk : Result.word { tag := .failure, err := k, lastOp := 5#4 } ∈ settledResults) (s : State) :
    ResultLegal (rejectSend k s) :=
  resultLegal_of_settled rfl hk

theorem sendEffect_resultLegal (port : Byte) (ct : BitVec 4) (s : State) : ResultLegal (sendEffect port ct s) := by
  rcases sendEffect_cases port ct s with ⟨_, he⟩ | ⟨_, _, he⟩ | ⟨_, _, he⟩ <;> rw [he]
  · exact rejectSend_resultLegal (by decide) _
  · exact rejectSend_resultLegal (by decide) _
  · exact (rfl : Result.word { tag := .none, err := .none, lastOp := 5#4 } = 0x0500#16)

/-- Whatever `RESULT` was, an operation at rest leaves a value of the table. -/
theorem exec_resultLegal {d : HostWord} {i : Instr} (hb : s.busy = false) (hd : decodeOp d = .ok i)
    (ht : exec i s = .next t) : ResultLegal t := by
  have hx := State.inExchange_of_resting hb
  rcases exec_resting_cases hb hd ht with ⟨_, rfl⟩ | ⟨_, rfl⟩ | ⟨_, rfl⟩ | ⟨_, rfl⟩ | ⟨_, rfl⟩ | ⟨_, rfl⟩ | ⟨_, rfl⟩
  · rcases cksumEffect_cases s with ⟨_, he⟩ | he <;> rw [he] <;> exact resultLegal_withResult hx (by decide)
  · rcases buildEffect_cases s with he | he <;> rw [he] <;> exact resultLegal_withResult hx (by decide)
  · exact resultLegal_withResult hx (by decide)
  · exact resultLegal_withResult hx (by decide)
  · exact sendEffect_resultLegal _ _ s
  · rcases decodeEffect_cases s with he | he | ⟨_, he⟩ <;> rw [he] <;> exact resultLegal_withResult hx (by decide)
  · rcases istatEffect_cases (ctField d) s with he | he | he <;> rw [he] <;> exact resultLegal_withResult hx (by decide)

theorem storeRegister_result (a : RegNum) (d : HostWord) (s : State) : (storeRegister a d s).result = s.result := by
  rcases storeRegister_cases a d s with h | h | h | h | ⟨_, h⟩ | h | h <;> rw [h] <;> rfl

/-- The results a dispatch can end with (43_bus_dispatcher R179, R180). -/
def dispatchOutcomes : List Result :=
  [{ tag := .success, err := .none, lastOp := 5#4 }, { tag := .failure, err := .timeout, lastOp := 5#4 },
   { tag := .failure, err := .transportUnavailable, lastOp := 5#4 }]

/-- From `s` to `t` nothing is reported: `RESULT` stays, and a dispatch goes on waiting or collecting where it was. -/
def SameReport (s t : State) : Prop := t.ds.inExchange = s.ds.inExchange ∧ t.result = s.result

/-- `t` has left the waiting and collecting states with a dispatch's outcome in `RESULT`. -/
def ReportsOutcome (t : State) : Prop := t.ds.inExchange = false ∧ t.result ∈ dispatchOutcomes

theorem SameReport.refl (s : State) : SameReport s s := ⟨rfl, rfl⟩

theorem enterTfault_reports (s : State) : ReportsOutcome (enterTfault s) := ⟨rfl, by simp [enterTfault, dispatchOutcomes]⟩

theorem enterTimeout_reports (s : State) : ReportsOutcome (enterTimeout s) := ⟨rfl, by simp [enterTimeout, dispatchOutcomes]⟩

theorem enterSuccess_reports (s : State) : ReportsOutcome (enterSuccess s) := ⟨rfl, by simp [dispatchOutcomes]⟩

theorem openingStep_report (hds : s.ds = .opening) : SameReport s (openingStep s) ∨ ReportsOutcome (openingStep s) := by
  rcases openingStep_cases s with ⟨_, he⟩ | ⟨_, he⟩ | ⟨_, he⟩ <;> rw [he]
  · exact .inl (.refl _)
  · exact .inl ⟨by rw [hds]; rfl, rfl⟩
  · exact .inr (enterTfault_reports s)

theorem writingStep_report (hds : s.ds = .writing) : SameReport s (writingStep s) ∨ ReportsOutcome (writingStep s) := by
  rcases writingStep_cases s with ⟨_, he⟩ | ⟨_, he⟩ | ⟨_, he⟩ <;> rw [he]
  · exact .inl (.refl _)
  · exact .inl ⟨by rw [hds]; rfl, rfl⟩
  · exact .inr (enterTfault_reports s)

theorem tickStep_report (ht : tickStep s = .next t) : SameReport s t ∨ ReportsOutcome t := by
  rcases tickStep_cases s with ⟨_, he⟩ | ⟨_, _, _, he⟩ | ⟨_, _, _, he⟩ | ⟨_, _, he⟩ <;> rw [he] at ht <;> cases ht
  · exact .inl (.refl _)
  · exact .inl ⟨rfl, rfl⟩
  · exact .inr (enterTimeout_reports _)

theorem readingStep_report (hds : s.ds = .reading) (ht : readingStep s = .next t) : SameReport s t ∨ ReportsOutcome t := by
  rcases readingStep_next_cases hds ht with ⟨_, ht⟩ | ⟨_, rfl⟩ | ⟨b, hk, _, _, rfl⟩ | ⟨b, hk, _, _, ht⟩
  · exact tickStep_report ht
  · exact .inr (enterTfault_reports s)
  · exact .inr (enterSuccess_reports _)
  · exact (tickStep_report ht).imp_left fun ⟨hx, hr⟩ => ⟨hx, hr⟩

theorem leaveOutcome_sameReport (hout : s.ds.isOutcome = true) : SameReport s (leaveOutcome s) := by
  refine ⟨?_, rfl⟩
  cases hds : s.ds <;> rw [hds] at hout
  case success => rfl
  case timeout => rfl
  case tfault => rfl
  all_goals cases hout

theorem dispatcherPhase_report (ht : dispatcherPhase s = .next t) : SameReport s t ∨ ReportsOutcome t := by
  rcases dispatcherPhase_next_cases ht with ⟨hds, rfl⟩ | ⟨hds, rfl⟩ | ⟨hds, ht⟩ | ⟨hout, rfl⟩ | ⟨_, rfl⟩
  · exact openingStep_report hds
  · exact writingStep_report hds
  · exact readingStep_report hds ht
  · exact .inl (leaveOutcome_sameReport hout)
  · exact .inl (.refl _)

/-- A step that begins busy reports nothing, or the outcome of its dispatch. -/
theorem step_busy_report (hr : s.input.rst = false) (hb : s.busy = true) (ht : step s = .next t) :
    SameReport s t ∨ ReportsOutcome t := by
  rw [step_of_busy hr hb] at ht
  obtain ⟨u, hu, hut⟩ := andThen_eq_next.mp ht
  cases hut
  exact (dispatcherPhase_report hu :)

theorem ReportsOutcome.resultLegal (h : ReportsOutcome t) : ResultLegal t := by
  have hwords : ∀ r ∈ dispatchOutcomes, r.word ∈ settledResults := by decide
  obtain ⟨hx, hr⟩ := h
  exact resultLegal_of_settled hx (hwords _ hr)

theorem reset_resultLegal : ResultLegal State.reset :=
  resultLegal_of_settled rfl (by decide)

theorem step_resultLegal (h : ResultLegal s) (ht : step s = .next t) : ResultLegal t := by
  cases hr : s.input.rst with
  | true =>
    rw [step_of_rst hr] at ht
    cases ht
    exact reset_resultLegal.congr rfl rfl
  | false =>
    cases hb : s.busy with
    | true =>
      rcases step_busy_report hr hb ht with ⟨hx, hres⟩ | hout
      · exact h.congr hx hres
      · exact hout.resultLegal
    | false =>
      rcases step_resting_cases hr hb ht with ⟨_, rfl⟩ | ⟨d, i, u, _, hd, hu, rfl⟩ | ⟨_, _, _, _, rfl⟩ | ⟨a, d, _, _, rfl⟩
      · exact h.congr rfl rfl
      · exact (exec_resultLegal hb hd hu).congr rfl rfl
      · exact h.congr rfl rfl
      · exact h.congr (congrArg _ (storeRegister_ds a d s)) (storeRegister_result a d s)

/-- Settles O44: an operation and a dispatch that ends report a value of the table, and an accepted SEND 0x0500 (`step_resultLegal`). -/
theorem resultStaysInTheTable : Obligations.ResultStaysInTheTable :=
  ⟨reset_resultLegal, fun _ _ h ht => step_resultLegal h ht⟩

end Sys2Proof.Machine
end

section
/-! Noninterference of the state that a dispatch does not depend on (10_state R43): `SameDispatch` is followed through each transition
of the dispatcher, and an accepted SEND establishes it. -/

namespace Sys2Proof.Machine

/-- Where `o` answers a next state, `o'` answers one alike with it in all that a dispatch depends on. -/
def AnswersAlike (o o' : Out) : Prop := ∀ t : State, o = .next t → ∃ t' : State, o' = .next t' ∧ SameDispatch t t'

theorem AnswersAlike.next {t t' : State} (h : SameDispatch t t') : AnswersAlike (.next t) (.next t') := by
  intro u hu
  cases hu
  exact ⟨t', rfl, h⟩

theorem answersAlike_fault (r : Fault) (o : Out) : AnswersAlike (.fault r) o := by
  intro _ ht
  cases ht

theorem AnswersAlike.andThen {o o' : Out} {f : State → Out} (h : AnswersAlike o o')
    (hf : ∀ t t' : State, SameDispatch t t' → AnswersAlike (f t) (f t')) : AnswersAlike (andThen o f) (andThen o' f) := by
  intro u hu
  obtain ⟨t, rfl, htu⟩ := andThen_eq_next.mp hu
  obtain ⟨t', rfl, halike⟩ := h t rfl
  exact hf t t' halike u htu

theorem SameDispatch.refl (s : State) : SameDispatch s s := by
  constructor <;> intros <;> rfl

variable {s s' : State}

section
variable (h : SameDispatch s s')
include h

theorem SameDispatch.input : s.input = s'.input := by
  rw [State.input, State.input, h.inputs, h.clock]

theorem SameDispatch.busy : s.busy = s'.busy := congrArg DispState.busy h.state

theorem SameDispatch.advance : SameDispatch s.advance s'.advance :=
  { h with inputs := congrArg List.tail h.inputs, clock := congrArg (· + 1) h.clock }

/-- `HZ` is not among what a dispatch depends on. -/
theorem SameDispatch.refusing : SameDispatch s.refusing s'.refusing := { h with }

/-- Reset forgets all but the model's own fields. -/
theorem SameDispatch.afterRst : SameDispatch s.afterRst s'.afterRst :=
  { SameDispatch.refl State.reset with config := h.config, inputs := h.inputs, clock := h.clock }

theorem SameDispatch.enterFailure {d : DispState} (hd : d ≠ .reading) (k : ErrorKind) :
    SameDispatch (enterFailure d k s) (enterFailure d k s') :=
  { h with reply := rfl, replyLength := rfl, result := rfl, state := rfl, timer := fun hds => absurd hds hd }

theorem SameDispatch.enterTfault : SameDispatch (enterTfault s) (enterTfault s') := h.enterFailure (by decide) _

theorem SameDispatch.enterTimeout : SameDispatch (enterTimeout s) (enterTimeout s') := h.enterFailure (by decide) _

theorem SameDispatch.enterSuccess : SameDispatch (enterSuccess s) (enterSuccess s') :=
  { h with replyLength := by simp [h.commandType], result := rfl, state := rfl, timer := by simp }

theorem SameDispatch.withTmr (n : BitVec 6) : SameDispatch (s.withTmr n) (s'.withTmr n) := { h with timer := fun _ => rfl }

theorem SameDispatch.leaveOutcome : SameDispatch (leaveOutcome s) (leaveOutcome s') :=
  { h with state := rfl, connection := rfl, timer := by simp [Machine.leaveOutcome] }

theorem SameDispatch.storeByteAt (b : Byte) {k : Nat} (hk : k < 7) : SameDispatch (storeByteAt b s k hk) (storeByteAt b s' k hk) :=
  { h with reply := by simp [Machine.storeByteAt, h.reply], received := congrArg (· + 1#3) h.received }

theorem openingStep_alike : SameDispatch (openingStep s) (openingStep s') := by
  rw [openingStep, openingStep, ← h.input]
  cases s.input.openRsp
  case none => exact h
  case ok => exact { h with state := rfl, connection := rfl, timer := by simp }
  case fail => exact h.enterTfault

/-- The window is loaded by the command type, so the stale timer is forgotten. -/
theorem writingStep_alike : SameDispatch (writingStep s) (writingStep s') := by
  rw [writingStep, writingStep, ← h.input]
  cases s.input.txRsp
  case none => exact h
  case done => exact { h with state := rfl, received := rfl, timer := fun _ => congrArg tq h.commandType }
  case fail => exact h.enterTfault

theorem tickStep_alike (hds : s.ds = .reading) : AnswersAlike (tickStep s) (tickStep s') := by
  unfold tickStep
  rw [← h.input, ← h.timer hds]
  split
  · split
    · exact answersAlike_fault _ _
    · split
      · exact .next (h.withTmr _).enterTimeout
      · exact .next (h.withTmr _)
  · exact .next h

theorem readingStep_alike (hds : s.ds = .reading) : AnswersAlike (readingStep s) (readingStep s') := by
  have hds' : s'.ds = .reading := h.state.symm.trans hds
  cases hrx : s.input.rx with
  | none =>
    rw [readingStep_of_none hrx, readingStep_of_none (h.input ▸ hrx)]
    exact tickStep_alike h hds
  | fault =>
    rw [readingStep_of_fault hrx, readingStep_of_fault (h.input ▸ hrx)]
    exact .next h.enterTfault
  | byte b =>
    have hrx' : s'.input.rx = .byte b := h.input ▸ hrx
    rcases receiveByte_cases b s with ⟨hk, hlast, _⟩ | ⟨hk, hmore, _⟩ | ⟨hfull, _⟩
    · rw [readingStep_of_completing hrx hk hlast,
        readingStep_of_completing hrx' (h.received ▸ hk) (h.received ▸ h.commandType ▸ hlast)]
      simp only [← h.received]
      exact .next (h.storeByteAt b hk).enterSuccess
    · rw [readingStep_of_byte hds hrx hk hmore,
        readingStep_of_byte hds' hrx' (h.received ▸ hk) (h.received ▸ h.commandType ▸ hmore)]
      simp only [← h.received]
      exact tickStep_alike (h.storeByteAt b hk) hds
    · rw [readingStep_of_full hrx hfull]
      exact answersAlike_fault _ _

theorem dispatcherPhase_alike : AnswersAlike (dispatcherPhase s) (dispatcherPhase s') := by
  unfold dispatcherPhase
  rw [← h.state]
  cases hds : s.ds
  case opening => exact .next (openingStep_alike h)
  case writing =>
    dsimp only
    rw [writePhase_eq hds, writePhase_eq (h.state.symm.trans hds)]
    exact .next (writingStep_alike h)
  case reading => exact readingStep_alike h hds
  case idle => exact .next h
  case closed => exact .next h
  all_goals exact .next h.leaveOutcome

theorem step_alike (hb : s.busy = true) : AnswersAlike (step s) (step s') := by
  cases hr : s.input.rst with
  | true =>
    rw [step_of_rst hr, step_of_rst (h.input ▸ hr)]
    exact .next h.afterRst.advance
  | false =>
    rw [step_of_busy hr hb, step_of_busy (h.input ▸ hr) (h.busy ▸ hb)]
    exact (dispatcherPhase_alike h.refusing).andThen fun _ _ halike => .next halike.advance

end

/-- Settles O52: each transition of the dispatcher takes states alike to states alike (`step_alike`). -/
theorem dispatchDependsOnItsOwnStateOnly : Obligations.DispatchDependsOnItsOwnStateOnly :=
  fun _ _ t hb h ht => step_alike h hb t ht

/-- Settles O53: an accepted SEND overwrites all that the two states may differ in, but for what no dispatch depends on. -/
theorem sendForgetsTheEarlierExchange : Obligations.SendForgetsTheEarlierExchange := by
  intro s s' t t' port ct hb hb' htxf hv hv' hconn hcfg hinputs hclock hct ht ht'
  rw [exec_send_of_resting hb (sendEffect_accepted hct hv)] at ht
  rw [exec_send_of_resting hb' (sendEffect_accepted hct hv')] at ht'
  cases ht
  cases ht'
  exact {
    frame := htxf, frameValid := hv.trans hv'.symm, connection := hconn, config := hcfg, inputs := hinputs, clock := hclock
    reply := rfl, replyLength := rfl, groups := rfl, groupCount := rfl, doorClass := rfl, result := rfl, state := rfl
    received := rfl, timer := by simp, commandType := rfl, port := rfl }

end Sys2Proof.Machine
end

section
/-! Laws of the checksum (40_checksum_engine R113, 70_reset_and_hazards R246): exclusive-or is its own inverse. -/

namespace Sys2Proof.Machine

/-- Re-applying a byte undoes it. -/
theorem xor_xor_cancel (x v : Byte) : (x ^^^ v) ^^^ v = x := by
  rw [BitVec.xor_assoc, BitVec.xor_self, BitVec.xor_zero]

/-- The checksum re-applied in the header's place gives the header; the other places follow by the symmetry of the engine. -/
theorem cks8_cks8_header (h b f l : Byte) : cks8 (cks8 h b f l) b f l = h := by
  have hcancel : cks8 (cks8 h b f l) b f l = (((((h ^^^ b) ^^^ b) ^^^ f) ^^^ f) ^^^ l) ^^^ l := by
    unfold cks8
    ac_rfl
  rw [hcancel, xor_xor_cancel, xor_xor_cancel, xor_xor_cancel]

theorem cks8_swap_header_board (h b f l : Byte) : cks8 h b f l = cks8 b h f l := by
  unfold cks8
  ac_rfl

theorem cks8_swap_header_func (h b f l : Byte) : cks8 h b f l = cks8 f b h l := by
  unfold cks8
  ac_rfl

theorem cks8_swap_header_lock (h b f l : Byte) : cks8 h b f l = cks8 l b f h := by
  unfold cks8
  ac_rfl

/-- Two frames that differ in the board byte have checksums that differ by the same bits. -/
theorem cks8_xor_cks8_board (h b b' f l : Byte) : cks8 h b f l ^^^ cks8 h b' f l = b ^^^ b' := by
  have hcancel : cks8 h b f l ^^^ cks8 h b' f l = ((((((b ^^^ b') ^^^ h) ^^^ h) ^^^ f) ^^^ f) ^^^ l) ^^^ l := by
    unfold cks8
    ac_rfl
  rw [hcancel, xor_xor_cancel, xor_xor_cancel, xor_xor_cancel]

/-- Settles O58: the law for the header, carried to each other place by the symmetry of the engine. -/
theorem checksumReapplication : Obligations.ChecksumReapplication := by
  rintro h b f l v c rfl
  have hboard : cks8 h (cks8 h b f l) f l = b := by
    rw [cks8_swap_header_board, cks8_swap_header_board h b, cks8_cks8_header]
  have hfunc : cks8 h b (cks8 h b f l) l = f := by
    rw [cks8_swap_header_func, cks8_swap_header_func h b f, cks8_cks8_header]
  have hlock : cks8 h b f (cks8 h b f l) = l := by
    rw [cks8_swap_header_lock, cks8_swap_header_lock h b f l, cks8_cks8_header]
  have hzero : cks8 h b f l ^^^ h ^^^ b ^^^ f ^^^ l = 0#8 :=
    calc cks8 h b f l ^^^ h ^^^ b ^^^ f ^^^ l = cks8 (cks8 h b f l) b f l ^^^ h := by unfold cks8; ac_rfl
      _ = 0#8 := by rw [cks8_cks8_header, BitVec.xor_self]
  exact ⟨xor_xor_cancel _ v, hzero, cks8_cks8_header h b f l, hboard, hfunc, hlock⟩

end Sys2Proof.Machine
end

section
/-! BUILD beside the templates and beside CKSUM (41_frame_builder R128, 70_reset_and_hazards R246). -/

namespace Sys2Proof.Machine

/-- The frame invariant leaves no choice of the checksum. -/
theorem SealedFrame.eq_sealFrame {f : Frame} (hf : SealedFrame f) : f = sealFrame f.header f.board f.lock f.func := by
  rw [sealFrame, ← hf]

variable {s : State}

/-- BUILD makes a sealed frame of that frame's own bytes. -/
theorem builtFrame_eq_of_sealed {f : Frame} (hf : SealedFrame f) (hhdr : lowByte s.hdr = f.header)
    (hbrd : emittedBoard s.cfg s.brd = f.board) (hlck : lowByte s.lck = f.lock) (hfnc : lowByte s.fnc = f.func) :
    builtFrame s = f := by
  rw [builtFrame, hhdr, hbrd, hlck, hfnc]
  exact hf.eq_sealFrame.symm

theorem buildEffect_txf (h : operandsAreBytes s = true) : (buildEffect s).txf = builtFrame s := by
  rw [buildEffect_of_bytes h]
  rfl

theorem emittedBoard_fixed {cfg : Config} (h : cfg.boardFixed = true) (brd : HostWord) : emittedBoard cfg brd = boardConst :=
  if_pos h

/-- A byte in a host word is in range, and is its low byte. -/
theorem byte_in_word (b : Byte) : (b.setWidth 16 : HostWord).toNat ≤ 0xFF ∧ lowByte (b.setWidth 16) = b := by
  have hrange : (b.setWidth 16 : HostWord).toNat ≤ 0xFF := by
    rw [BitVec.toNat_setWidth]
    omega
  exact ⟨hrange, (lowByte_eq_iff hrange b).mpr rfl⟩

/-- Settles O5: each template is sealed, and BUILD makes a sealed frame of its own bytes, the board byte being the fixed one. -/
theorem templatesAreWhatBuildMakes : Obligations.TemplatesAreWhatBuildMakes := by
  refine ⟨fun s u hb hu => ?_, fun s t u hb hfixed hbrd hlck ht => ?_⟩
  · rcases hu with hu | hu
    · obtain rfl := eq_effect_of_resting hb tpluaEffect hu
      exact sealedFrame_unlockAllTemplate
    · obtain rfl := eq_effect_of_resting hb tplqaEffect hu
      exact sealedFrame_queryAllTemplate s.cfg.queryFc
  · obtain rfl := eq_effect_of_resting hb buildEffect ht
    have hboard := emittedBoard_fixed hfixed s.brd
    refine ⟨fun hhdr hfnc hu => ?_, fun hhdr hfnc hu => ?_⟩
    · obtain rfl := eq_effect_of_resting hb tpluaEffect hu
      rw [buildEffect_txf (operandsAreBytes_iff.mpr ⟨by simp [hhdr], hbrd, by simp [hlck], by simp [hfnc]⟩)]
      exact builtFrame_eq_of_sealed sealedFrame_unlockAllTemplate (by rw [hhdr]; rfl) hboard (by rw [hlck]; rfl)
        (by rw [hfnc]; rfl)
    · obtain rfl := eq_effect_of_resting hb tplqaEffect hu
      obtain ⟨hrange, hlow⟩ := byte_in_word s.cfg.queryFc
      rw [buildEffect_txf (operandsAreBytes_iff.mpr ⟨by simp [hhdr], hbrd, by simp [hlck], hfnc ▸ hrange⟩)]
      exact builtFrame_eq_of_sealed (sealedFrame_queryAllTemplate _) (by rw [hhdr]; rfl) hboard (by rw [hlck]; rfl)
        (hfnc ▸ hlow)

/-- Settles O6: both operations answer with a checksum over the same header, function and lock bytes. -/
theorem cksumAndBuildDifferByBoardByte : Obligations.CksumAndBuildDifferByBoardByte := by
  intro s hb hhdr hbrd hlck hfnc
  have hbytes := operandsAreBytes_iff.mpr ⟨hhdr, hbrd, hlck, hfnc⟩
  refine ⟨cksumEffect s, buildEffect s, (operation_answers cksumEffect s).2 hb, (operation_answers buildEffect s).2 hb, ?_⟩
  rw [cksumEffect_of_bytes hbytes, buildEffect_of_bytes hbytes]
  refine ⟨rfl, (cks8_xor_cks8_board _ (lowByte s.brd) (emittedBoard s.cfg s.brd) _ _).trans ?_⟩
  unfold emittedBoard
  split
  · rfl
  · exact BitVec.xor_self

end Sys2Proof.Machine
end

section
/-! Command frames: the refusal of a frame the core does not present (notes/assumptions/6.md), the step that runs the one it presents,
and their classification by header and lock address (30_encoding R93). -/

namespace Sys2Proof.Machine

theorem transmitFrame_of_not_presented {f : Frame} {s : State} (h : s.ds ≠ .writing ∨ s.txf ≠ f) :
    transmitFrame f s = .refused .frameNotPresented :=
  if_neg (by tauto)

/-- Settles O14: an instruction encoded as a frame is one of the four rows, whose meaning asks for that frame in WRITING. -/
theorem frameNotPresentedIsRefused : Obligations.FrameNotPresentedIsRefused := by
  intro s i f hi h
  cases i <;> cases hi <;> exact transmitFrame_of_not_presented h

/-- Settles O16. -/
theorem stepRunsPresentedCommandFrame : Obligations.StepRunsPresentedCommandFrame :=
  fun _ _ hr hw hds hi => step_of_presented_frame hr hw hds hi

/-- Settles O22, row by row: the header tells the unlock rows from the query rows, and lock address 0x00 the "all" row, which no
well-formed command to one door has. -/
theorem headerAndLockClassifyCommands : Obligations.HeaderAndLockClassifyCommands := by
  intro cfg i f hwf hi
  cases i <;> cases hi
  case unlockAll => simp [Frame.classify, unlockAllFrame, Instr.commandType]
  case unlockIndividual => simp [Frame.classify, unlockIndividualFrame, Instr.commandType, ne_lockAll_of_checks hwf]
  case queryIndividual =>
    simp [Frame.classify, queryIndividualFrame, Instr.commandType, hdrQuery_ne_hdrUnlock, ne_lockAll_of_checks hwf]
  case queryAll => simp [Frame.classify, queryAllFrame, Instr.commandType, hdrQuery_ne_hdrUnlock]

end Sys2Proof.Machine
end

section
/-! The reset state as a host sees it (10_state R44, 70_reset_and_hazards R232). -/

namespace Sys2Proof.Machine

/-- Whatever a register number reads, after reset it is 0. -/
theorem hostRead_reset (a : RegNum) : hostRead State.reset a = 0#16 := by
  decide +revert

/-- After reset the core drives nothing: it is IDLE, with port and frame 0. -/
theorem outputs_reset :
    outputs State.reset =
      { busy := false, openReq := false, portO := 0#8, txReq := false, txData := 0#40, drvEn := false, rxEn := false,
        closeReq := false } := by
  decide

/-- Settles O24: the values are those `State.reset` lists; the two words and the reads are computed from them. -/
theorem resetValuesAreZero : Obligations.ResetValuesAreZero :=
  ⟨rfl, rfl, rfl, rfl, rfl, rfl, rfl, zeroRsp_getElem, rfl, zeroGroups_getElem, rfl, rfl, rfl, rfl, rfl, rfl, rfl, rfl, rfl, rfl, rfl,
    rfl, rfl, hostRead_reset, outputs_reset⟩

end Sys2Proof.Machine
end

section
/-! The writers of the frame buffer (10_state R23, 20_memory R75). -/

namespace Sys2Proof.Machine

/-- The frame buffer with its valid flag. -/
def State.frameBuffer (s : State) : Frame × Bool := (s.txf, s.txv)

variable {s t : State}

theorem cksumEffect_frameBuffer (s : State) : (cksumEffect s).frameBuffer = s.frameBuffer := by
  rcases cksumEffect_cases s with ⟨_, he⟩ | he <;> rw [he] <;> rfl

theorem sendEffect_frameBuffer (port : Byte) (ct : BitVec 4) (s : State) :
    (sendEffect port ct s).frameBuffer = s.frameBuffer := by
  rcases sendEffect_cases port ct s with ⟨_, he⟩ | ⟨_, _, he⟩ | ⟨_, _, he⟩ <;> rw [he] <;> rfl

theorem decodeEffect_frameBuffer (s : State) : (decodeEffect s).frameBuffer = s.frameBuffer := by
  rcases decodeEffect_cases s with he | he | ⟨_, he⟩ <;> rw [he] <;> rfl

theorem istatEffect_frameBuffer (ct : BitVec 4) (s : State) : (istatEffect ct s).frameBuffer = s.frameBuffer := by
  rcases istatEffect_cases ct s with he | he | he <;> rw [he] <;> rfl

theorem storeRegister_frameBuffer (a : RegNum) (d : HostWord) (s : State) :
    (storeRegister a d s).frameBuffer = s.frameBuffer := by
  rcases storeRegister_cases a d s with h | h | h | h | ⟨_, h⟩ | h | h <;> rw [h] <;> rfl

/-- Of the operations, the Frame Builder's three alone write the frame buffer. -/
theorem exec_frameBuffer {d : HostWord} {i : Instr} (hb : s.busy = false) (hd : decodeOp d = .ok i) (ht : exec i s = .next t)
    (hne : t.frameBuffer ≠ s.frameBuffer) : opcField d = 2#4 ∨ opcField d = 3#4 ∨ opcField d = 4#4 := by
  rcases exec_resting_cases hb hd ht with ⟨_, rfl⟩ | ⟨ho, _⟩ | ⟨ho, _⟩ | ⟨ho, _⟩ | ⟨_, rfl⟩ | ⟨_, rfl⟩ | ⟨_, rfl⟩
  · exact absurd (cksumEffect_frameBuffer s) hne
  · exact .inl ho
  · exact .inr (.inl ho)
  · exact .inr (.inr ho)
  · exact absurd (sendEffect_frameBuffer _ _ s) hne
  · exact absurd (decodeEffect_frameBuffer s) hne
  · exact absurd (istatEffect_frameBuffer _ s) hne

/-- A dispatch leaves the frame buffer as it is. -/
theorem step_frameBuffer_of_busy (hr : s.input.rst = false) (hb : s.busy = true) (ht : step s = .next t) :
    t.frameBuffer = s.frameBuffer :=
  (congrArg State.frameBuffer (step_busy_exchange hr hb ht)).trans rfl

/-- At rest the frame buffer changes only by a BUILD, TPLUA or TPLQA. -/
theorem step_frameBuffer_of_resting (hr : s.input.rst = false) (hb : s.busy = false) (ht : step s = .next t)
    (hne : t.frameBuffer ≠ s.frameBuffer) : ∃ d : HostWord, s.input.host = .write opRegister d ∧
      (opcField d = 2#4 ∨ opcField d = 3#4 ∨ opcField d = 4#4) := by
  rcases step_resting_cases hr hb ht with ⟨_, rfl⟩ | ⟨d, i, u, hw, hd, hu, rfl⟩ | ⟨_, _, _, _, rfl⟩ | ⟨a, d, _, _, rfl⟩
  · exact absurd rfl hne
  · exact ⟨d, hw, exec_frameBuffer hb hd hu hne⟩
  · exact absurd rfl hne
  · exact absurd (storeRegister_frameBuffer a d s) hne

/-- Settles O46, busy and at rest. -/
theorem frameBufferHasOneWriter : Obligations.FrameBufferHasOneWriter := by
  intro s t hr ht
  refine ⟨fun hb => Prod.mk.inj (step_frameBuffer_of_busy hr hb ht), fun hne => ?_⟩
  have hchanged : t.frameBuffer ≠ s.frameBuffer := fun he =>
    hne.elim (fun hf => hf (Prod.mk.inj he).1) (fun hv => hv (Prod.mk.inj he).2)
  cases hb : s.busy with
  | true => exact absurd (step_frameBuffer_of_busy hr hb ht) hchanged
  | false => exact ⟨rfl, step_frameBuffer_of_resting hr hb ht hchanged⟩

end Sys2Proof.Machine
end

section
/-! The connection through a step (10_state R32, 70_reset_and_hazards R231). -/

namespace Sys2Proof.Machine

theorem DispState.isOutcome_iff {d : DispState} : d.isOutcome = true ↔ d = .success ∨ d = .timeout ∨ d = .tfault := by
  cases d <;> decide

variable {s t : State}

theorem storeRegister_conn (a : RegNum) (d : HostWord) (s : State) : (storeRegister a d s).conn = s.conn := by
  rcases storeRegister_cases a d s with h | h | h | h | ⟨_, h⟩ | h | h <;> rw [h] <;> rfl

/-- No access of the host opens or closes the connection. -/
theorem step_conn_of_resting (hr : s.input.rst = false) (hb : s.busy = false) (ht : step s = .next t) : t.conn = s.conn := by
  rcases step_resting_cases hr hb ht with ⟨_, rfl⟩ | ⟨d, i, u, _, hd, hu, rfl⟩ | ⟨_, _, _, _, rfl⟩ | ⟨a, d, _, _, rfl⟩
  · rfl
  · exact (congrArg State.conn (exec_operation hb hd hu)).trans rfl
  · rfl
  · exact storeRegister_conn a d s

theorem writingStep_conn (s : State) : (writingStep s).conn = s.conn := by
  rcases writingStep_cases s with ⟨_, he⟩ | ⟨_, he⟩ | ⟨_, he⟩ <;> rw [he] <;> rfl

theorem tickStep_conn (ht : tickStep s = .next t) : t.conn = s.conn := by
  rcases tickStep_cases s with ⟨_, he⟩ | ⟨_, _, _, he⟩ | ⟨_, _, _, he⟩ | ⟨_, _, he⟩ <;> rw [he] at ht <;> cases ht <;> rfl

theorem readingStep_conn (hds : s.ds = .reading) (ht : readingStep s = .next t) : t.conn = s.conn := by
  rcases readingStep_next_cases hds ht with ⟨_, ht⟩ | ⟨_, rfl⟩ | ⟨b, hk, _, _, rfl⟩ | ⟨b, hk, _, _, ht⟩
  · exact tickStep_conn ht
  · rfl
  · rfl
  · exact (tickStep_conn ht).trans rfl

/-- The connection after a step: open by the transport's OK, closed by an outcome state, else as it was. -/
theorem step_conn (hr : s.input.rst = false) (ht : step s = .next t) :
    t.conn = if s.ds = .opening ∧ s.input.openRsp = .ok then true else if s.ds.isOutcome = true then false else s.conn := by
  cases hds : s.ds
  case opening =>
    rw [step_of_opening hr hds] at ht
    cases ht
    rcases openingStep_cases s with ⟨hi, he⟩ | ⟨hi, he⟩ | ⟨hi, he⟩ <;> rw [he, hi] <;> rfl
  case writing =>
    rw [step_of_writing hr hds] at ht
    cases ht
    exact writingStep_conn s
  case reading =>
    rw [step_of_reading hr hds] at ht
    obtain ⟨u, hu, hut⟩ := andThen_eq_next.mp ht
    cases hut
    exact (readingStep_conn hds hu :)
  case idle => exact step_conn_of_resting hr (State.busy_eq_false.mpr (.inl hds)) ht
  case closed => exact step_conn_of_resting hr (State.busy_eq_false.mpr (.inr hds)) ht
  all_goals
    rw [step_of_outcome hr (by simp [hds])] at ht
    cases ht
    rfl

theorem closeReq_iff : (outputs s).closeReq = true ↔ s.ds.isOutcome = true ∧ s.conn = true := by
  simp [outputs, DispState.isOutcome_iff]

/-- Settles O51: the clauses read `step_conn` under the invariants, which have no open connection in OPENING. -/
theorem connectionClosedThroughCloseReq : Obligations.ConnectionClosedThroughCloseReq := by
  intro s t h hr ht
  have hstep := step_conn hr ht
  refine ⟨fun hclosed hopen => ?_, fun hopen => ?_, fun hreq => ?_⟩
  · by_contra hno
    simp [hstep, hno, hclosed] at hopen
  · have hnotOpening : s.ds ≠ .opening := fun hds => by
      have := h.connOnlyInDispatch hopen
      simp [hds, DispState.isOutcome] at this
    rw [hstep, closeReq_iff]
    simp [hnotOpening, hopen]
  · obtain ⟨hout, _⟩ := closeReq_iff.mp hreq
    rw [step_of_outcome hr (DispState.isOutcome_iff.mp hout)] at ht
    cases ht
    exact ⟨rfl, rfl⟩

end Sys2Proof.Machine
end

section
/-! Runs over placed input records: their parts, the records each step samples, and what the invariants give a run. -/

namespace Sys2Proof.Machine

theorem runsTo_add {m n : Nat} {s t : State} : RunsTo (m + n) s t ↔ ∃ u : State, RunsTo m s u ∧ RunsTo n u t := by
  induction m generalizing s with
  | zero => simp [RunsTo]
  | succ m ih =>
    rw [Nat.add_right_comm]
    simp only [RunsTo, ih]
    exact ⟨fun ⟨v, hv, u, hm, hn⟩ => ⟨u, ⟨v, hv, hm⟩, hn⟩, fun ⟨u, ⟨v, hv, hm⟩, hn⟩ => ⟨v, hv, u, hm, hn⟩⟩

theorem runsTo_snoc {n : Nat} {s t u : State} (hrun : RunsTo n s t) (hstep : step t = .next u) : RunsTo (n + 1) s u :=
  runsTo_add.mpr ⟨t, hrun, u, hstep, rfl⟩

theorem step_inputs {s t : State} (ht : step s = .next t) : t.inputs = s.inputs.tail :=
  congrArg (fun f => f.2.1) (step_ownFields ht)

/-- A run along the first part of the tape leaves the rest. -/
theorem runsTo_inputs {l m : List Input} {s t : State} (hrun : RunsTo l.length s t) (hin : s.inputs = l ++ m) :
    t.inputs = m := by
  obtain ⟨_, hinputs, _⟩ := configurationNeverChanges _ s t hrun
  rw [hinputs, hin, List.drop_left]

/-- A run along two parts of the tape is one along each, the first leaving the second. -/
theorem runsTo_append {l m : List Input} {s t : State} (hrun : RunsTo (l ++ m).length s t) (hin : s.inputs = l ++ m) :
    ∃ u : State, RunsTo l.length s u ∧ u.inputs = m ∧ RunsTo m.length u t := by
  rw [List.length_append] at hrun
  obtain ⟨u, hl, hm⟩ := runsTo_add.mp hrun
  exact ⟨u, hl, runsTo_inputs hl hin, hm⟩

/-- Induction along a tape: what each step carries from the records still to come to the rest of them holds at the end. -/
theorem runsTo_along {P : List Input → State → Prop} {Q : Input → Prop}
    (hstep : ∀ (l : List Input) (s t : State), Q s.input → step s = .next t → P (s.input :: l) s → P l t)
    {l m : List Input} {s t : State} (hrun : RunsTo l.length s t) (hin : s.inputs = l ++ m) (hQ : ∀ i ∈ l, Q i) (h : P l s) :
    P [] t := by
  induction l generalizing s with
  | nil =>
    cases hrun
    exact h
  | cons i l ih =>
    obtain ⟨u, hu, hrun⟩ := hrun
    have hi : s.input = i := State.input_of_inputs _ _ _ hin
    have hrest : u.inputs = l ++ m := by rw [step_inputs hu, hin]; rfl
    have hu' : P l u := hstep l s u (by rw [hi]; exact hQ i (by simp)) hu (by rwa [hi])
    exact ih hrun hrest (fun j hj => hQ j (by simp [hj])) hu'

/-- Under the invariants runs of every length exist, and keep them. -/
theorem exists_runsTo_inv {s : State} (h : CoreInv s) (n : Nat) : ∃ t : State, RunsTo n s t ∧ CoreInv t := by
  induction n with
  | zero => exact ⟨s, rfl, h⟩
  | succ n ih =>
    obtain ⟨t, hrun, ht⟩ := ih
    obtain ⟨u, hu⟩ := step_answers ht
    exact ⟨u, runsTo_snoc hrun hu, step_inv ht hu⟩

theorem runsTo_inv {n : Nat} {s t : State} (h : CoreInv s) (hrun : RunsTo n s t) : CoreInv t := by
  induction n generalizing s with
  | zero => cases hrun; exact h
  | succ n ih =>
    obtain ⟨u, hu, hrun⟩ := hrun
    exact ih (step_inv h hu) hrun

theorem tickCount_append (l m : List Input) : tickCount (l ++ m) = tickCount l + tickCount m := by
  simp [tickCount]

theorem tickCount_cons (i : Input) (l : List Input) : tickCount (i :: l) = i.tick.toNat + tickCount l := by
  cases hi : i.tick <;> simp [tickCount, hi, Nat.add_comm]

theorem tickCount_snoc (l : List Input) (i : Input) : tickCount (l ++ [i]) = tickCount l + i.tick.toNat := by
  rw [tickCount_append, tickCount_cons]
  rfl

end Sys2Proof.Machine
end

section
/-! The read window along a run: it ends at its last tick, or with the last byte of the reply (43_bus_dispatcher R187). -/

namespace Sys2Proof.Machine

/-- One step of the countdown (R176). -/
theorem countdown_toNat {n : BitVec 6} {tick : Bool} (h : tick = false ∨ 1 < n.toNat) :
    (if tick then n - 1#6 else n).toNat = n.toNat - tick.toNat := by
  cases tick with
  | false => rfl
  | true =>
    have hn : 1 < n.toNat := by simpa using h
    simp only [if_true, Bool.toNat_true]
    bv_omega

/-- A window of more ticks than the step brings stays open. -/
theorem window_open {n : Nat} {tick : Bool} (h : tick.toNat < n) : tick = false ∨ 1 < n := by
  cases tick
  · exact .inl rfl
  · exact .inr h

variable {s : State}

/-- With nothing received and fewer ticks than the window, the dispatch goes on waiting, the ticks counted off. -/
theorem window_stays_open {l m : List Input} (hds : s.ds = .reading) (hin : s.inputs = l ++ m) (hsilent : silent l)
    (hticks : tickCount l < s.tmr.toNat) :
    ∃ t : State, RunsTo l.length s t ∧ t.ds = .reading ∧ t.tmr.toNat = s.tmr.toNat - tickCount l ∧ t.result = s.result := by
  induction l using List.reverseRecOn generalizing m with
  | nil => exact ⟨s, rfl, hds, rfl, rfl⟩
  | append_singleton l i ih =>
    rw [tickCount_snoc] at hticks ⊢
    rw [List.append_assoc] at hin
    obtain ⟨t, hrun, htds, htmr, hres⟩ := ih hin (fun j hj => hsilent j (by simp [hj])) (by omega)
    have hti : t.input = i := State.input_of_inputs _ _ _ (runsTo_inputs hrun hin)
    obtain ⟨hrst, hrx⟩ := hsilent i (by simp)
    have hopen : t.input.tick = false ∨ 1 < t.tmr.toNat := by
      rw [hti]
      exact window_open (by omega)
    have hstep := (readingCountsTicksAndBytes t (hti ▸ hrst) htds hopen).1 (hti ▸ hrx)
    rw [List.length_append]
    refine ⟨_, runsTo_snoc hrun hstep, htds, (countdown_toNat hopen).trans ?_, hres⟩
    rw [hti]
    omega

/-- Settles O54: the ticks before the last leave the window open (`window_stays_open`), and the last one finds it at 1. -/
theorem windowEndsAtItsLastTickExactly : Obligations.WindowEndsAtItsLastTickExactly := by
  intro s l hds hin hsilent
  refine ⟨window_stays_open (m := []) hds (by simpa using hin) hsilent, ?_⟩
  rintro k i rfl htick hticks
  rw [tickCount_snoc, htick, Bool.toNat_true] at hticks
  obtain ⟨t, hrun, htds, htmr, _⟩ :=
    window_stays_open hds hin (fun j hj => hsilent j (by simp [hj])) (by omega)
  have hti : t.input = i := State.input_of_inputs _ _ _ (runsTo_inputs hrun hin)
  obtain ⟨hrst, hrx⟩ := hsilent i (by simp)
  have hlast : t.tmr = 1#6 := BitVec.eq_of_toNat_eq (by rw [htmr, ← hticks, Nat.add_sub_cancel_left]; rfl)
  have hstep := (lastTickTimesOutAndDropsPartialReply t (hti ▸ hrst) htds (hti ▸ htick) hlast).1 (hti ▸ hrx)
  rw [List.length_append]
  exact ⟨_, runsTo_snoc hrun hstep, rfl, rfl⟩

/-- `t` is collecting the reply of the dispatch of `s`: it has received `bs`, and `ticks` ticks have come. -/
structure Collecting (s : State) (bs : List Byte) (ticks : Nat) (t : State) : Prop where
  reading : t.ds = .reading
  commandType : t.dct = s.dct
  received : t.rxcnt.toNat = bs.length
  stored : t.rsp.toList.take bs.length = bs.map fun b => b.setWidth 16
  timer : t.tmr.toNat = s.tmr.toNat - ticks

/-- Storing the next element makes the stored part one longer. -/
theorem take_succ_of_stored {r r' : Vector HostWord 7} {n : Nat} {w : HostWord} (hn : n < 7)
    (h : ∀ i : Fin 7, r'[i] = if i.val = n then w else r[i]) :
    r'.toList.take (n + 1) = r.toList.take n ++ [w] := by
  have hget (i : Nat) (hi : i < 7) : r'[i] = if i = n then w else r[i] := h ⟨i, hi⟩
  have hkept : r'.toList.take n = r.toList.take n := by
    refine List.ext_getElem (by simp) fun i hi _ => ?_
    have hi' : i < n := by simp at hi; omega
    simpa [Nat.ne_of_lt hi'] using hget i (by omega)
  have hnew : r'[n] = w := by simpa using hget n hn
  rw [List.take_succ_eq_append_getElem (by simpa using hn), hkept, Vector.getElem_toList, hnew]

/-- A tape of bytes that ends is a tape of bytes and one more. -/
theorem bytes_of_snoc {l : List Input} {i : Input} {bs : List Byte}
    (h : (l ++ [i]).map (fun i => i.rx) = bs.map RxIn.byte) :
    ∃ (bs' : List Byte) (b : Byte), bs = bs' ++ [b] ∧ l.map (fun i => i.rx) = bs'.map RxIn.byte ∧ i.rx = .byte b := by
  rcases List.eq_nil_or_concat' bs with rfl | ⟨bs', b, rfl⟩
  · simp at h
  · rw [List.map_append, List.map_append] at h
    obtain ⟨hl, hi⟩ := List.append_inj' h rfl
    exact ⟨bs', b, rfl, hl, by simpa using hi⟩

/-- Bytes that leave the reply incomplete, with fewer ticks than the window, are collected. -/
theorem bytes_are_collected {l m : List Input} {bs : List Byte} (hds : s.ds = .reading) (hcount : s.rxcnt = 0#3)
    (hin : s.inputs = l ++ m) (hrst : noReset l) (hrx : l.map (fun i => i.rx) = bs.map RxIn.byte)
    (hlen : bs.length < explen s.dct) (hticks : tickCount l < s.tmr.toNat) :
    ∃ t : State, RunsTo l.length s t ∧ Collecting s bs (tickCount l) t := by
  induction l using List.reverseRecOn generalizing m bs with
  | nil =>
    obtain rfl : bs = [] := by simpa using hrx.symm
    exact ⟨s, rfl, { reading := hds, commandType := rfl, received := by simp [hcount], stored := rfl, timer := rfl }⟩
  | append_singleton l i ih =>
    obtain ⟨bs, b, rfl, hl, hi⟩ := bytes_of_snoc hrx
    rw [tickCount_snoc] at hticks ⊢
    rw [List.append_assoc] at hin
    rw [List.length_append, List.length_singleton] at hlen
    obtain ⟨t, hrun, hcol⟩ := ih hin (fun j hj => hrst j (by simp [hj])) hl (by omega) (by omega)
    have hti : t.input = i := State.input_of_inputs _ _ _ (runsTo_inputs hrun hin)
    have htmr := hcol.timer
    have hroom : bs.length + 1 < 7 := Nat.lt_of_lt_of_le hlen (explen_le s.dct)
    have hopen : t.input.tick = false ∨ 1 < t.tmr.toNat := by
      rw [hti]
      exact window_open (by omega)
    obtain ⟨r, hr, hstep⟩ := (readingCountsTicksAndBytes t (hti ▸ hrst i (by simp)) hcol.reading hopen).2 b (hti ▸ hi)
      (by rw [hcol.received]; omega) (by rw [hcol.received, hcol.commandType]; omega)
    rw [hcol.received] at hr
    rw [List.length_append]
    refine ⟨_, runsTo_snoc hrun hstep, {
      reading := hcol.reading
      commandType := hcol.commandType
      received := ?_
      stored := ?_
      timer := (countdown_toNat hopen).trans ?_ }⟩
    · have := hcol.received
      simp only [List.length_append, List.length_singleton]
      bv_omega
    · rw [List.length_append, List.length_singleton, List.map_append, ← hcol.stored]
      exact take_succ_of_stored (by omega) hr
    · rw [hti]
      omega

/-- Settles O55: the bytes before the last are collected (`bytes_are_collected`), and the last one completes the reply in its step. -/
theorem replyBytesGiveSuccessAtTheLast : Obligations.ReplyBytesGiveSuccessAtTheLast := by
  intro s l bs hds hcount hin hrst hrx hlen hticks
  rcases List.eq_nil_or_concat' l with rfl | ⟨l, i, rfl⟩
  · have hpos := explen_pos s.dct
    obtain rfl : bs = [] := by simpa using hrx.symm
    simp at hlen
    omega
  · obtain ⟨bs, b, rfl, hl, hi⟩ := bytes_of_snoc hrx
    rw [List.dropLast_concat] at hticks ⊢
    rw [List.length_append, List.length_singleton] at hlen
    obtain ⟨t, hrun, hcol⟩ :=
      bytes_are_collected hds hcount hin (fun j hj => hrst j (by simp [hj])) hl (by omega) hticks
    have hti : t.input = i := State.input_of_inputs _ _ _ (runsTo_inputs hrun hin)
    have hroom : bs.length + 1 ≤ 7 := hlen ▸ explen_le s.dct
    obtain ⟨r, hr, hstep⟩ := completingByteSucceedsAtOnce t b (hti ▸ hrst i (by simp)) hcol.reading (hti ▸ hi)
      (by rw [hcol.received, hcol.commandType]; omega)
    rw [hcol.received] at hr
    rw [List.length_append, List.length_append]
    refine ⟨_, runsTo_snoc hrun hstep, rfl, rfl, ?_, ?_, ?_, hcol.timer⟩
    · have hreply : (if t.dct = 3#4 then 7#4 else 5#4 : BitVec 4) = BitVec.ofNat 4 (bs.length + 1) := by
        rw [hlen, ← hcol.commandType, ofNat_explen]
      dsimp only
      rw [hreply, BitVec.toNat_ofNat, List.length_singleton]
      omega
    · rw [List.map_append, ← hcol.stored]
      exact take_succ_of_stored (by omega) hr
    · have := hcol.received
      simp only [List.length_singleton]
      bv_omega

end Sys2Proof.Machine
end

section
/-! Every dispatch whose open and write are answered and whose window ticks ends in CLOSED with an outcome (43_bus_dispatcher R185,
60_exceptions R220). -/

namespace Sys2Proof.Machine

/-- How far a dispatch has come: a quiet step never takes it back. -/
def DispState.stage : DispState → Nat
  | .idle => 0
  | .opening => 1
  | .writing => 2
  | .reading => 3
  | .success => 4
  | .timeout => 4
  | .tfault => 4
  | .closed => 5

theorem DispState.stage_pos {d : DispState} (h : d.busy = true) : 1 ≤ d.stage := by
  cases d
  case idle => cases h
  all_goals decide

theorem DispState.stage_eq_one {d : DispState} : d.stage = 1 ↔ d = .opening := by
  cases d <;> decide

theorem DispState.stage_eq_two {d : DispState} : d.stage = 2 ↔ d = .writing := by
  cases d <;> decide

theorem DispState.stage_eq_three {d : DispState} : d.stage = 3 ↔ d = .reading := by
  cases d <;> decide

theorem DispState.outcome_or_closed {d : DispState} (h : 4 ≤ d.stage) :
    (d = .success ∨ d = .timeout ∨ d = .tfault) ∨ d = .closed := by
  revert h
  cases d <;> decide

/-- No reset and no host access in the record. -/
def QuietInput (i : Input) : Prop := i.rst = false ∧ i.host = .none

theorem hostQuiet_append {l m : List Input} : hostQuiet (l ++ m) ↔ hostQuiet l ∧ hostQuiet m :=
  List.forall_mem_append

variable {s t : State}

/-- A quiet step leaves the dispatch where it is or takes it on (R186). -/
theorem stage_le_of_quiet (hq : QuietInput s.input) (ht : step s = .next t) : s.ds.stage ≤ t.ds.stage := by
  obtain ⟨hr, hhost⟩ := hq
  obtain ⟨hrest, hopening, hwriting, hreading, hout⟩ := dispatcherMovesByTheTable s t hr ht
  rw [hhost] at hrest
  cases hds : s.ds
  case idle => rw [hrest (.inl hds), hds]
  case closed => rw [hrest (.inr hds), hds]
  case opening => rw [hopening hds]; cases s.input.openRsp <;> decide
  case writing => rw [hwriting hds]; cases s.input.txRsp <;> decide
  case reading =>
    rw [hreading hds]
    cases s.input.rx with
    | fault => dsimp only; decide
    | none => dsimp only; split <;> decide
    | byte b => dsimp only; split_ifs <;> decide
  case success => rw [hout (.inl hds)]; decide
  case timeout => rw [hout (.inr (.inl hds))]; decide
  case tfault => rw [hout (.inr (.inr hds))]; decide

theorem stage_of_answered_open (hr : s.input.rst = false) (ht : step s = .next t) (hds : s.ds = .opening)
    (hi : s.input.openRsp ≠ .none) : 2 ≤ t.ds.stage := by
  obtain ⟨_, hopening, _⟩ := dispatcherMovesByTheTable s t hr ht
  rw [hopening hds]
  cases h : s.input.openRsp with
  | none => exact absurd h hi
  | ok => decide
  | fail => decide

theorem stage_of_answered_write (hr : s.input.rst = false) (ht : step s = .next t) (hds : s.ds = .writing)
    (hi : s.input.txRsp ≠ .none) : 3 ≤ t.ds.stage := by
  obtain ⟨_, _, hwriting, _⟩ := dispatcherMovesByTheTable s t hr ht
  rw [hwriting hds]
  cases h : s.input.txRsp with
  | none => exact absurd h hi
  | done => decide
  | fail => decide

theorem tickStep_tmr (ht : tickStep s = .next t) : t.tmr.toNat + s.input.tick.toNat = s.tmr.toNat := by
  rcases tickStep_cases s with ⟨hi, he⟩ | ⟨hi, h0, _, he⟩ | ⟨hi, h0, _, he⟩ | ⟨_, _, he⟩ <;> rw [he] at ht <;> cases ht <;>
    rw [hi]
  · rfl
  · simp only [State.withTmr_tmr, Bool.toNat_true]
    bv_omega
  · simp only [enterTimeout, enterFailure_tmr, State.withTmr_tmr, Bool.toNat_true]
    bv_omega

/-- A step that stays in READING counts its tick off. -/
theorem readingStep_tmr (hds : s.ds = .reading) (ht : readingStep s = .next t) (hstill : t.ds = .reading) :
    t.tmr.toNat + s.input.tick.toNat = s.tmr.toNat := by
  rcases readingStep_next_cases hds ht with ⟨_, ht⟩ | ⟨_, rfl⟩ | ⟨b, hk, _, _, rfl⟩ | ⟨b, hk, _, _, ht⟩
  · exact tickStep_tmr ht
  · simp [enterTfault] at hstill
  · simp at hstill
  · exact (tickStep_tmr ht :)

theorem step_tmr_of_reading (hr : s.input.rst = false) (hds : s.ds = .reading) (ht : step s = .next t)
    (hstill : t.ds = .reading) : t.tmr.toNat + s.input.tick.toNat = s.tmr.toNat := by
  rw [step_of_reading hr hds] at ht
  obtain ⟨u, hu, hut⟩ := andThen_eq_next.mp ht
  cases hut
  exact (readingStep_tmr hds hu hstill :)

/-- The dispatch waits or collects, or `RESULT` shows its outcome. -/
def OutcomeDue (s : State) : Prop := s.ds.inExchange = true ∨ s.result.lastOp = sendCode ∧ s.result.tag ≠ .none

theorem step_outcomeDue (hq : QuietInput s.input) (ht : step s = .next t) (h : OutcomeDue s) : OutcomeDue t := by
  obtain ⟨hr, hhost⟩ := hq
  have hcongr : SameReport s t → OutcomeDue t := by
    rintro ⟨hx, hres⟩
    unfold OutcomeDue
    rwa [hx, hres]
  cases hb : s.busy with
  | true =>
    rcases step_busy_report hr hb ht with hsame | ⟨_, hres⟩
    · exact hcongr hsame
    · have houtcomes : ∀ r ∈ dispatchOutcomes, r.lastOp = sendCode ∧ r.tag ≠ .none := by decide
      exact .inr (houtcomes _ hres)
  | false =>
    rw [step_of_resting_of_not_isWrite hr hb (by rw [hhost]; rfl)] at ht
    cases ht
    exact hcongr ⟨rfl, rfl⟩

/-! The three waits of a dispatch, each along its own part of the tape. -/

section
variable {l m : List Input} (hrun : RunsTo l.length s t) (hin : s.inputs = l ++ m) (hquiet : hostQuiet l)
include hrun hin hquiet

/-- A wait at stage `k` is over at the end of the tape, where what is due of the tape stays due along it and cannot be due of nothing. -/
theorem wait_over {k : Nat} {due : List Input → State → Prop} (hs : k ≤ s.ds.stage) (hdue : due l s)
    (hstep : ∀ (l : List Input) (u v : State), QuietInput u.input → step u = .next v → u.ds.stage = k → v.ds.stage = k →
      due (u.input :: l) u → due l v)
    (hend : t.ds.stage = k → ¬ due [] t) : k < t.ds.stage := by
  have hwait : k < t.ds.stage ∨ t.ds.stage = k ∧ due [] t := by
    refine runsTo_along (Q := QuietInput) (P := fun l u => k < u.ds.stage ∨ u.ds.stage = k ∧ due l u) ?_ hrun hin hquiet
      (hs.lt_or_eq.imp_right fun hk => ⟨hk.symm, hdue⟩)
    rintro l u v hq hv (hlater | ⟨hk, hd⟩)
    · exact .inl (hlater.trans_le (stage_le_of_quiet hq hv))
    · have hle : k ≤ v.ds.stage := hk ▸ stage_le_of_quiet hq hv
      exact hle.lt_or_eq.imp_right fun hk' => ⟨hk'.symm, hstep l u v hq hv hk hk'.symm hd⟩
  exact hwait.resolve_right fun ⟨hk, hd⟩ => hend hk hd

/-- An answer that is due ends its wait. -/
theorem wait_over_of_answer {k : Nat} {answers : Input → Prop} (hs : k ≤ s.ds.stage) (hdue : ∃ i ∈ l, answers i)
    (hstep : ∀ u v : State, QuietInput u.input → step u = .next v → u.ds.stage = k → answers u.input → k < v.ds.stage) :
    k < t.ds.stage := by
  refine wait_over (due := fun l _ => ∃ i ∈ l, answers i) hrun hin hquiet hs hdue ?_ (by simp)
  rintro l u v hq hv hk hk' ⟨i, hi, ha⟩
  rcases List.mem_cons.mp hi with rfl | hi
  · exact absurd (hstep u v hq hv hk ha) (by omega)
  · exact ⟨i, hi, ha⟩

theorem opened_of_answer (hs : 1 ≤ s.ds.stage) (hanswer : ∃ i ∈ l, i.openRsp ≠ .none) : 2 ≤ t.ds.stage :=
  wait_over_of_answer (answers := fun i => i.openRsp ≠ .none) hrun hin hquiet hs hanswer fun _ _ hq hv hk =>
    stage_of_answered_open hq.1 hv (DispState.stage_eq_one.mp hk)

theorem written_of_answer (hs : 2 ≤ s.ds.stage) (hanswer : ∃ i ∈ l, i.txRsp ≠ .none) : 3 ≤ t.ds.stage :=
  wait_over_of_answer (answers := fun i => i.txRsp ≠ .none) hrun hin hquiet hs hanswer fun _ _ hq hv hk =>
    stage_of_answered_write hq.1 hv (DispState.stage_eq_two.mp hk)

/-- The longest window is over when its ticks have come: the timer never exceeds the ticks to come, and is not 0 in READING. -/
theorem window_over (h : CoreInv s) (hs : 3 ≤ s.ds.stage) (hticks : 40 ≤ tickCount l) : 4 ≤ t.ds.stage := by
  refine wait_over (due := fun l u => u.ds = .reading → u.tmr.toNat ≤ tickCount l) hrun hin hquiet hs
    (fun hds => (h.timerInWindow hds).2.trans hticks) ?_ ?_
  · intro l u v hq hv hk _ hd hds'
    have hds := DispState.stage_eq_three.mp hk
    have hcount := step_tmr_of_reading hq.1 hds hv hds'
    have htmr := hd hds
    rw [tickCount_cons] at htmr
    omega
  · intro hk hd
    have hds := DispState.stage_eq_three.mp hk
    exact absurd (((runsTo_inv h hrun).timerInWindow hds).1.trans (hd hds)) (by decide)

theorem runsTo_outcomeDue (h : OutcomeDue s) : OutcomeDue t :=
  runsTo_along (Q := QuietInput) (P := fun _ => OutcomeDue) (fun _ _ _ hq hv hu => step_outcomeDue hq hv hu) hrun hin hquiet h

end

/-- At rest the outcome that `RESULT` shows is a DispatchResult. -/
theorem dispatchResult_of_outcomeDue (hb : s.busy = false) (h : OutcomeDue s) : dispatchResult s ≠ none := by
  have hx := State.inExchange_of_resting hb
  obtain ⟨hop, htag⟩ : s.result.lastOp = sendCode ∧ s.result.tag ≠ .none := h.resolve_left (by simp [hx])
  unfold dispatchResult
  cases hr : s.result.tag with
  | none => exact absurd hr htag
  | success => simp [hb, hop]
  | failure => simp [hb, hop]

/-- From an outcome state, or from CLOSED, a quiet step ends in CLOSED. -/
theorem closed_of_outcome (hq : QuietInput s.input) (ht : step s = .next t) (hs : 4 ≤ s.ds.stage) : t.ds = .closed := by
  obtain ⟨hr, hhost⟩ := hq
  obtain ⟨hrest, _, _, _, hout⟩ := dispatcherMovesByTheTable s t hr ht
  rcases DispState.outcome_or_closed hs with hds | hds
  · exact hout hds
  · rw [hhost] at hrest
    exact (hrest (.inr hds)).trans hds

/-- Settles O56: the run exists by the invariants; part by part of the tape the open, the write and the window are behind it, and the
last step closes. -/
theorem everyAnsweredDispatchEnds : Obligations.EveryAnsweredDispatchEnds := by
  intro s opens writes ticks last h hb hin hquiet hopens hwrites hticks
  obtain ⟨t, hwhole, hinv⟩ := exists_runsTo_inv h s.inputs.length
  have hdue (hx : s.ds.inExchange = true) : OutcomeDue t :=
    runsTo_outcomeDue (m := []) hwhole (by simp) hquiet (.inl hx)
  have hparts : s.inputs = opens ++ (writes ++ (ticks ++ [last])) := by simp [hin]
  rw [hparts] at hquiet
  obtain ⟨hquietOpens, hquiet⟩ := hostQuiet_append.mp hquiet
  obtain ⟨hquietWrites, hquiet⟩ := hostQuiet_append.mp hquiet
  obtain ⟨hquietTicks, hquietLast⟩ := hostQuiet_append.mp hquiet
  obtain ⟨u, hrunOpens, hu, hrun⟩ := runsTo_append (hparts ▸ hwhole) hparts
  obtain ⟨v, hrunWrites, hv, hrun⟩ := runsTo_append hrun hu
  obtain ⟨w, hrunTicks, hw, hlast⟩ := runsTo_append hrun hv
  have hopened := opened_of_answer hrunOpens hparts hquietOpens (DispState.stage_pos hb) hopens
  have hwritten := written_of_answer hrunWrites hu hquietWrites hopened hwrites
  have hinv' : CoreInv v := runsTo_inv (runsTo_inv h hrunOpens) hrunWrites
  have hover := window_over hrunTicks hv hquietTicks hinv' hwritten hticks
  obtain ⟨_, hstep, rfl⟩ := hlast
  have hwi : w.input = last := State.input_of_inputs _ _ _ hw
  have hclosed : t.ds = .closed := closed_of_outcome (hwi ▸ hquietLast last (by simp)) hstep hover
  have hrest : t.busy = false := State.busy_eq_false.mpr (.inr hclosed)
  exact ⟨t, hwhole, hclosed, hinv.conn_of_resting hrest, fun hx => dispatchResult_of_outcomeDue hrest (hdue hx)⟩

end Sys2Proof.Machine
end
